-- ==== Sys2Proof/Word.lean ====
section
/-! DEFINITION. The word types of the block: bytes, registers, and the fixed-size bit strings of
00_scope.md R9, R13 and R14. A string of k bytes is kept as the bit vector whose most significant byte is
byte 0 (R141), and a bit sequence `Seq n` as the bit vector whose most significant bit is bit 0 (R14,
R142), so that `seqOfBytes` and `bytesOfSeq` between the two are the identity. -/

namespace Sys2Proof

/-- One byte. -/
abbrev Byte := BitVec 8

/-- A host register or command word: 32 bits (10_state.md R70). -/
abbrev Word := BitVec 32

/-- A 30-byte Link Setup Frame, byte 0 most significant (44_lsf_lich.md R360). -/
abbrev Lsf := BitVec 240

/-- A 48-byte RF frame: the 2-byte sync word, then the body (30_encoding.md R221). -/
abbrev RfFrame := BitVec 384

/-- A 46-byte frame body, bit 0 of the sequence most significant (30_encoding.md R221). -/
abbrev Body := BitVec 368

/-- A 6-byte LICH fragment (44_lsf_lich.md R370). -/
abbrev Fragment := BitVec 48

/-- The 12 coded bytes of a LICH fragment (44_lsf_lich.md R372). -/
abbrev Lich := BitVec 96

/-- A stream payload (30_encoding.md R224) in its 16 bytes, the first most significant; bytes that a smaller
`PAYLOAD_BYTES` does not use are 0 (log 22). -/
abbrev Payload := BitVec 128

end Sys2Proof
end

