-- ==== Sys2Proof/Machine/Bits.lean ====
section
/-! DEFINITION. Bit sequences, byte strings and counting: the notation of 00_scope.md R12 to R14. A
`Seq n` is a `BitVec n` whose bit 0 of the sequence is the most significant bit. -/

namespace Sys2Proof.Machine

/-- `s@0, s@1, …, s@(n-1)` (R13). -/
def seqBits {n : Nat} (s : BitVec n) : List Bool := (List.range n).map fun i => s.getMsbD i

/-- The `Seq n` with these bits, first bit first (R13). -/
def seqOfBits (n : Nat) (bits : List Bool) : BitVec n :=
  BitVec.ofNat n (bits.foldl (fun acc b => 2 * acc + b.toNat) 0)

/-- `seqOfBytes` of a byte string of n/8 bytes (R14): byte 0 first, most significant bit first. -/
def seqOfBytes (n : Nat) (bytes : List Byte) : BitVec n :=
  BitVec.ofNat n (bytes.foldl (fun acc b => 256 * acc + b.toNat) 0)

/-- `bytesOfSeq` (R14): a last partial byte is padded with zeros in its low bits. -/
def bytesOfSeq {n : Nat} (s : BitVec n) : List Byte :=
  let k := (n + 7) / 8
  let padded : BitVec (8 * k) := s.setWidth (8 * k) <<< (8 * k - n)
  (List.range k).map fun j => padded.extractLsb' (8 * (k - 1 - j)) 8

/-- Byte `j` of a byte string kept as a bit vector (R14); 0 past its end. -/
def byteAt {n : Nat} (s : BitVec n) (j : Nat) : Byte :=
  if 8 * j + 8 ≤ n then s.extractLsb' (n - 8 - 8 * j) 8 else 0#8

/-- `popcount` (R12). -/
def popcount {n : Nat} (v : BitVec n) : Nat := (List.range n).countP fun i => v.getLsbD i

/-- `sat32(x + y)` (45_rx_sequencer.md R416). -/
def satAdd32 (x : BitVec 32) (y : Nat) : BitVec 32 :=
  BitVec.ofNat 32 (min (x.toNat + y) (2 ^ 32 - 1))

end Sys2Proof.Machine
end

