-- ==== Sys2Proof/Config.lean ====
section
/-! DEFINITION. The parameters of 00_scope.md R9 that a configuration may set. A machine's state carries
its own `Params` and no step changes it, so a statement about every state is a statement about every
configuration (log 2). The sizes that the source states (48, 46, 368, 240, ...) are widths of types. -/

namespace Sys2Proof

/-- `STATUS_LAYOUT(v)` (47_serial_engine.md R526): byte offsets of the mode, the flags and the space in
a status payload, and the shortest payload. OPEN in R9. -/
structure StatusLayout where
  modeOff  : Nat
  flagsOff : Nat
  spaceOff : Nat
  minLen   : Nat
deriving DecidableEq, Repr

/-- The codec's numeric parameters (R9, ground `gk`, and `SMAX`). -/
structure Codec where
  /-- `INTERLEAVE_P`: entry i is the position bit i goes to. -/
  interleaveP  : List Nat
  /-- `SCRAMBLE_KEY`, byte 0 most significant. -/
  scrambleKey  : Body
  /-- `GOLAY_POLY`, bit k the coefficient of x^k. -/
  golayPoly    : BitVec 12
  /-- `CONV_G1`, bit k the tap on the input delayed by k. -/
  convG1       : BitVec 5
  /-- `CONV_G2`. -/
  convG2       : BitVec 5
  /-- `PUNCT_P1`, index 0 first. -/
  punctP1      : List Bool
  /-- `PUNCT_P2`, index 0 first. -/
  punctP2      : List Bool
  /-- `SMAX`, the largest soft symbol. -/
  smax         : Nat
  crcPoly      : BitVec 16
  crcInit      : BitVec 16
  syncLsf      : BitVec 16
  syncStream   : BitVec 16
  syncPacket   : BitVec 16
  syncEot      : BitVec 16
  /-- `FN_BITS`: the bits of a frame number that a stream block carries, at most the 16 of its slot in the
  rules (30_encoding.md R224, 20_memory.md R159). -/
  fnBits       : Fin 17
  /-- `PAYLOAD_BYTES`: the payload bytes that a stream block carries, at most the 16 of their slot. -/
  payloadBytes : Fin 17
deriving DecidableEq, Repr

/-- The default values of R9 for the codec: 41_bit_transform.md R251 and R257, 42_golay.md R281,
43_convolutional.md R311, R314, R315 and R320, 44_lsf_lich.md R363, 30_encoding.md R222 and R224. -/
def Codec.standard : Codec where
  interleaveP := (List.range 368).map fun i => (45 * i + 92 * i * i) % 368
  scrambleKey := 0xD6B5E23082FF8462BA4E9690D898DD5D0CC85243911DF86E682F35DA14EACD76198DD580D133871357182D2978C3#368
  golayPoly   := 0xC75#12
  convG1      := 0x19#5
  convG2      := 0x17#5
  punctP1     := true :: (List.replicate 15 [true, false, true, true]).flatten
  punctP2     := List.replicate 11 true ++ [false]
  smax        := 2
  crcPoly     := 0x5935#16
  crcInit     := 0xFFFF#16
  syncLsf     := 0x55F7#16
  syncStream  := 0xFF5D#16
  syncPacket  := 0x75FF#16
  syncEot     := 0x555D#16
  fnBits       := 16
  payloadBytes := 16

/-- The serial framing bytes and type codes (R9, ground `gk`; 30_encoding.md R210, R211, R213). -/
structure SerialCodes where
  /-- `SER_START`. -/
  start      : Byte
  /-- `SER_LEN_ESCAPE`. -/
  lenEscape  : Byte
  /-- `SER_LEN2_BIAS`. -/
  len2Bias   : Nat
  getVersion : Byte
  getStatus  : Byte
  setConfig  : Byte
  setMode    : Byte
  setFreq    : Byte
  linkSetup  : Byte
  stream     : Byte
  packet     : Byte
  lost       : Byte
  ack        : Byte
  nak        : Byte
  debug1     : Byte
  debug2     : Byte
  debug3     : Byte
  debug4     : Byte
  debug5     : Byte
deriving DecidableEq, Repr

/-- The default values of R9: 30_encoding.md R210, R211 and R213. -/
def SerialCodes.standard : SerialCodes where
  start      := 0xE0#8
  lenEscape  := 0x00#8
  len2Bias   := 255
  getVersion := 0x00#8
  getStatus  := 0x01#8
  setConfig  := 0x02#8
  setMode    := 0x03#8
  setFreq    := 0x04#8
  linkSetup  := 0x45#8
  stream     := 0x46#8
  packet     := 0x47#8
  lost       := 0x48#8
  ack        := 0x70#8
  nak        := 0x7F#8
  debug1     := 0xF1#8
  debug2     := 0xF2#8
  debug3     := 0xF3#8
  debug4     := 0xF4#8
  debug5     := 0xF5#8

/-- The sixteen type codes in the order of R213. -/
def SerialCodes.types (c : SerialCodes) : List Byte :=
  [c.getVersion, c.getStatus, c.setConfig, c.setMode, c.setFreq, c.linkSetup, c.stream, c.packet, c.lost,
    c.ack, c.nak, c.debug1, c.debug2, c.debug3, c.debug4, c.debug5]

/-- `FN_BITS` + 8·`PAYLOAD_BYTES`: the data bits of a stream block, by default the 144 of 43_convolutional.md
R310. -/
def Codec.blockBits (c : Codec) : Nat := c.fnBits.val + 8 * c.payloadBytes.val

/-- The width of the frame counter (46_tx_builder.md R466) and so the place of the EOS flag above it
(30_encoding.md R224): `FN_BITS` − 1, by default 15. That the flag stays on top of a narrower frame number is a
DESIGN CHOICE (log 22). -/
def Codec.counterBits (c : Codec) : Nat := c.fnBits.val - 1

/-- In which order one stream frame of a call reports a full payload FIFO and a failed LICH. 45_rx_sequencer.md
R416 and 60_exceptions.md R632 differ, so a configuration says which holds. DESIGN CHOICE (log 20). -/
inductive ErrorOrder where
  /-- as R416 runs: `E_PLQ_OVF`, then `E_GOLAY` or `E_LICH_POS` -/
  | asRun
  /-- as R632 lists them for one frame: `E_GOLAY` or `E_LICH_POS`, then `E_PLQ_OVF` -/
  | asListed
deriving DecidableEq, Repr

/-- The parameters of one block (00_scope.md R9). -/
structure Params where
  codec         : Codec
  serial        : SerialCodes
  /-- no parameter of R9: how R416 and R632 are reconciled (log 20) -/
  errorOrder    : ErrorOrder
  /-- `SUPPORTED_VERSIONS`, a subset of 1 and 2 (47_serial_engine.md R520). -/
  versions      : List Byte
  /-- `STATUS_LAYOUT(1)`. -/
  statusLayout1 : StatusLayout
  /-- `STATUS_LAYOUT(2)`. -/
  statusLayout2 : StatusLayout
  /-- `EOT_SER_TYPE` (47_serial_engine.md R542). -/
  eotSerType    : Byte
  rxbufCap      : Nat
  rxqCap        : Nat
  txqCap        : Nat
  evqCap        : Nat
  plqCap        : Nat
  tPoll         : Nat
  tWd           : Nat
  tPace         : Nat
  tBackoff      : Nat
  tResp         : Nat
  nVer          : Nat
  nAck          : Nat
deriving DecidableEq, Repr

/-- R526: each offset lies below the shortest length. -/
def StatusLayout.wf (l : StatusLayout) : Bool :=
  decide (l.modeOff < l.minLen) && decide (l.flagsOff < l.minLen) && decide (l.spaceOff < l.minLen)

/-- How many of the first `m` coded bits a pattern keeps (43_convolutional.md R316). -/
def keptBits (pat : List Bool) (m : Nat) : Nat :=
  (List.range m).countP fun j => pat.getD (j % pat.length) false

/-- The constraints the spec sets on the codec's parameters: the interleaver permutes 0..367 (R251,
R252), the patterns keep 368 and 272 bits of the two coded blocks (R310: of 488 and, by default, 296), a frame
number has its EOS flag (R224), `SMAX` is even and at least 2 (R320). -/
def Codec.wf (c : Codec) : Bool :=
  decide (c.interleaveP.length = 368) && (List.range 368).all (c.interleaveP.contains ·) &&
  decide (keptBits c.punctP1 488 = 368) && decide (keptBits c.punctP2 (2 * (c.blockBits + 4)) = 272) &&
  decide (1 ≤ c.fnBits.val) &&
  decide (2 ≤ c.smax) && decide (c.smax % 2 = 0)

/-- Serial codes with which R210 to R213 and 47_serial_engine.md R540 make sense: a type names one kind of
frame, the escape is no short frame's length, and the bias lets the long form carry what the short one cannot.
The spec states no constraint here, and the defaults meet these. DESIGN CHOICE (log 3). -/
def SerialCodes.wf (c : SerialCodes) : Bool :=
  decide c.types.Nodup && decide (c.lenEscape.toNat < 3) && decide (5 ≤ c.len2Bias) && decide (c.len2Bias ≤ 257)

/-- The constraints of R9, R515, R520, R526 and R589 on a configuration. -/
def Params.wf (p : Params) : Bool :=
  p.codec.wf && p.serial.wf && p.statusLayout1.wf && p.statusLayout2.wf &&
  p.versions.all (fun v => decide (v = 1#8) || decide (v = 2#8)) &&
  decide (53 ≤ p.rxbufCap) &&
  decide (1 ≤ p.rxqCap) && decide (1 ≤ p.txqCap) && decide (1 ≤ p.evqCap) && decide (1 ≤ p.plqCap) &&
  decide (1 ≤ p.nVer) && decide (p.nVer ≤ 255) && decide (1 ≤ p.nAck) && decide (p.nAck ≤ 255)

/-- The configuration `State.reset` carries: every default of R9, and for the OPEN parameters the
illustrative values of 95_test_vectors.md section 3; `RXBUF_CAP` and `STATUS_LAYOUT(2)`, which that file
does not give, are 510 (the longest serial frame, R211) and the layout given for version 1.
DESIGN CHOICE, unsafe (log 2). -/
def Params.illustrative : Params where
  codec         := Codec.standard
  serial        := SerialCodes.standard
  errorOrder    := .asRun
  versions      := [1#8, 2#8]
  statusLayout1 := ⟨0, 1, 2, 3⟩
  statusLayout2 := ⟨0, 1, 2, 3⟩
  eotSerType    := 0x46#8
  rxbufCap      := 510
  rxqCap        := 16
  txqCap        := 16
  evqCap        := 64
  plqCap        := 64
  tPoll         := 250
  tWd           := 1000
  tPace         := 40
  tBackoff      := 2000
  tResp         := 500
  nVer          := 3
  nAck          := 3

end Sys2Proof
end

