-- ==== Sys2Proof/Syntax.lean ====
section
/-! DEFINITION. The instructions of the block (00_scope.md R3, 30_encoding.md R180): one constructor per
row of spec/opcode_table.json. A constructor carries exactly the fields its row's rule names; the bits
a format says are ignored are no operands. -/

namespace Sys2Proof

/-- An `st.rxq` entry, a tagged frame (20_memory.md R157). `frame` is zero where `hasFrame` is false, and
`rssi` is zero where `hasRssi` is false. -/
structure TaggedFrame where
  tag      : BitVec 3
  hasFrame : Bool
  frame    : RfFrame
  hasRssi  : Bool
  rssi     : BitVec 16
deriving DecidableEq, Repr

/-- One instruction: a host transaction (`PORT`), a command word (`CMD`), an inbound serial frame
(`SER`, with its payload) or a tagged frame (`TAG`, with the rest of its record). -/
inductive Instr where
  -- PORT (R181)
  | rd (sel : Byte)
  | wr (sel : Byte) (data : Word)
  | brd (sel : Byte) (off : BitVec 16)
  | bwr (sel : Byte) (off : BitVec 16) (data : Byte)
  -- CMD (R182 to R184)
  | nop
  | genc (d : BitVec 12)
  | gdec (w : BitVec 24)
  | cencLsf
  | cdecLsf
  | cdecLsfSoft
  | cencStr
  | cdecStr
  | cdecStrSoft
  | ilv
  | dilv
  | scr
  | crc16 (n : BitVec 10)
  | lenc
  | ldec
  | rxInject (tag : BitVec 3) (hasRssi : Bool)
  | rxReset
  | txStart
  | txPayload (eos : Bool)
  | txEnd
  | txNextLsf
  | linkOpen
  | linkClose
  | linkSetMode (mode : Byte)
  | evPop
  | plPop
  -- SER (R210 to R213)
  | serGetVersion (payload : List Byte)
  | serGetStatus (payload : List Byte)
  | serSetConfig (payload : List Byte)
  | serSetMode (payload : List Byte)
  | serSetFreq (payload : List Byte)
  | serM17LinkSetup (payload : List Byte)
  | serM17Stream (payload : List Byte)
  | serM17Packet (payload : List Byte)
  | serM17Lost (payload : List Byte)
  | serAck (payload : List Byte)
  | serNak (payload : List Byte)
  | serDebug1 (payload : List Byte)
  | serDebug2 (payload : List Byte)
  | serDebug3 (payload : List Byte)
  | serDebug4 (payload : List Byte)
  | serDebug5 (payload : List Byte)
  -- TAG (R220)
  | tagHeader (hasFrame : Bool) (frame : RfFrame) (hasRssi : Bool) (rssi : BitVec 16)
  | tagData (hasFrame : Bool) (frame : RfFrame) (hasRssi : Bool) (rssi : BitVec 16)
  | tagData2 (hasFrame : Bool) (frame : RfFrame) (hasRssi : Bool) (rssi : BitVec 16)
  | tagLost (hasFrame : Bool) (frame : RfFrame) (hasRssi : Bool) (rssi : BitVec 16)
  | tagEot (hasFrame : Bool) (frame : RfFrame) (hasRssi : Bool) (rssi : BitVec 16)
deriving DecidableEq, Repr

end Sys2Proof
end

