-- ==== Sys2Proof/WellFormed.lean ====
section
/-! DEFINITION. Which instructions the formats can carry. Every field of a `PORT` or `CMD` instruction is
free (30_encoding.md R181, R183); a `SER` payload must fit the longest frame (R211); a `TAG` record must
have the form of 20_memory.md R157. -/

namespace Sys2Proof

/-- R211: a frame has at most 510 bytes, so a payload at most 506. -/
def payloadFits (payload : List Byte) : Bool := decide (payload.length ≤ 506)

/-- R157: a record without an RSSI reading holds 0 there. -/
def rssiAbsentIsZero (hasRssi : Bool) (rssi : BitVec 16) : Bool := hasRssi || decide (rssi = 0#16)

/-- R157: only a LOST record has no frame, and its frame bytes are zero. -/
def lostRecordOk (hasFrame : Bool) (frame : RfFrame) : Bool := !hasFrame && decide (frame = 0#384)

/-- The well-formed instructions. -/
def Instr.wellFormed : Instr → Bool
  | .rd _ | .wr _ _ | .brd _ _ | .bwr _ _ _ => true
  | .nop | .genc _ | .gdec _ | .cencLsf | .cdecLsf | .cdecLsfSoft | .cencStr | .cdecStr
  | .cdecStrSoft | .ilv | .dilv | .scr | .crc16 _ | .lenc | .ldec | .rxInject _ _ | .rxReset
  | .txStart | .txPayload _ | .txEnd | .txNextLsf | .linkOpen | .linkClose | .linkSetMode _
  | .evPop | .plPop => true
  | .serGetVersion p | .serGetStatus p | .serSetConfig p | .serSetMode p | .serSetFreq p
  | .serM17LinkSetup p | .serM17Stream p | .serM17Packet p | .serM17Lost p | .serAck p | .serNak p
  | .serDebug1 p | .serDebug2 p | .serDebug3 p | .serDebug4 p | .serDebug5 p => payloadFits p
  | .tagHeader hf _ hr r | .tagData hf _ hr r | .tagData2 hf _ hr r | .tagEot hf _ hr r =>
    hf && rssiAbsentIsZero hr r
  | .tagLost hf f hr r => lostRecordOk hf f && rssiAbsentIsZero hr r

end Sys2Proof
end

