-- ==== Sys2Proof/Decode.lean ====
section
/-! DEFINITION. The encodings of 30_encoding.md, read and written: the opcode tables of the `CMD`, `SER`
and `TAG` formats, a total decoder that rejects by name, and after it the encoder. -/

namespace Sys2Proof

/-- An encoded instruction in one of the four formats of R180. -/
inductive Code where
  /-- a 64-bit host transaction (R181) -/
  | port (w : BitVec 64)
  /-- a 32-bit command word (R182) -/
  | cmd (w : Word)
  /-- the bytes of one serial frame, first byte first (R210, R211) -/
  | ser (bytes : List Byte)
  /-- a tagged-frame record, its kind the dispatch key (R220) -/
  | tag (e : TaggedFrame)
deriving DecidableEq, Repr

/-- Why an encoding is no instruction. -/
inductive DecodeError where
  /-- a reserved command code (R185) -/
  | reservedOp
  /-- a serial frame that does not begin with `SER_START` (R210, R511) -/
  | noStartByte
  /-- fewer bytes than the header needs (R210, R211) -/
  | truncated
  /-- a length byte of 1 or 2 (R212) -/
  | lengthTooSmall
  /-- a length that is not the number of bytes given (R210, R211) -/
  | lengthMismatch
  /-- a serial type code that R213 does not list (R214) -/
  | unknownType
  /-- a tagged-frame kind 5..7 (R220) -/
  | reservedTag
deriving DecidableEq, Repr

/-- The command codes of R184, each with the fields of `imm` that R183 names. -/
def cmdTable : List (Byte × (BitVec 24 → Instr)) :=
  [ (0x00#8, fun _ => .nop),
    (0x01#8, fun imm => .genc (imm.extractLsb' 0 12)),
    (0x02#8, fun imm => .gdec imm),
    (0x03#8, fun _ => .cencLsf),
    (0x04#8, fun _ => .cdecLsf),
    (0x05#8, fun _ => .cdecLsfSoft),
    (0x06#8, fun _ => .cencStr),
    (0x07#8, fun _ => .cdecStr),
    (0x08#8, fun _ => .cdecStrSoft),
    (0x09#8, fun _ => .ilv),
    (0x0A#8, fun _ => .dilv),
    (0x0B#8, fun _ => .scr),
    (0x0C#8, fun imm => .crc16 (imm.extractLsb' 0 10)),
    (0x0D#8, fun _ => .lenc),
    (0x0E#8, fun _ => .ldec),
    (0x10#8, fun imm => .rxInject (imm.extractLsb' 0 3) (imm.getLsbD 3)),
    (0x11#8, fun _ => .rxReset),
    (0x20#8, fun _ => .txStart),
    (0x21#8, fun imm => .txPayload (imm.getLsbD 0)),
    (0x22#8, fun _ => .txEnd),
    (0x23#8, fun _ => .txNextLsf),
    (0x30#8, fun _ => .linkOpen),
    (0x31#8, fun _ => .linkClose),
    (0x32#8, fun imm => .linkSetMode (imm.extractLsb' 0 8)),
    (0x40#8, fun _ => .evPop),
    (0x41#8, fun _ => .plPop) ]

/-- The serial type codes of R213, with the values a configuration gives them. -/
def serTable (c : SerialCodes) : List (Byte × (List Byte → Instr)) :=
  [ (c.getVersion, .serGetVersion), (c.getStatus, .serGetStatus), (c.setConfig, .serSetConfig),
    (c.setMode, .serSetMode), (c.setFreq, .serSetFreq), (c.linkSetup, .serM17LinkSetup),
    (c.stream, .serM17Stream), (c.packet, .serM17Packet), (c.lost, .serM17Lost), (c.ack, .serAck),
    (c.nak, .serNak), (c.debug1, .serDebug1), (c.debug2, .serDebug2), (c.debug3, .serDebug3),
    (c.debug4, .serDebug4), (c.debug5, .serDebug5) ]

/-- The tagged-frame kinds of R220. -/
def tagTable : List (BitVec 3 × (Bool → RfFrame → Bool → BitVec 16 → Instr)) :=
  [ (0#3, .tagHeader), (1#3, .tagData), (2#3, .tagData2), (3#3, .tagLost), (4#3, .tagEot) ]

/-- R181: `kind` in bits 63:62, `sel` 61:54, `off` 53:38, `data` 31:0. No word is illegal. -/
def decodePort (w : BitVec 64) : Instr :=
  let kind := w.extractLsb' 62 2
  let sel := w.extractLsb' 54 8
  let off := w.extractLsb' 38 16
  if kind = 0#2 then .rd sel
  else if kind = 1#2 then .wr sel (w.extractLsb' 0 32)
  else if kind = 2#2 then .brd sel off
  else .bwr sel off (w.extractLsb' 0 8)

/-- R182: `op` in bits 31:24, `imm` in bits 23:0. -/
def decodeCmd (w : Word) : Except DecodeError Instr :=
  match cmdTable.lookup (w.extractLsb' 24 8) with
  | some row => .ok (row (w.extractLsb' 0 24))
  | none => .error .reservedOp

/-- The instruction of a complete frame, from its type byte and its payload (R213, R214). -/
def decodeSerBody (c : SerialCodes) (type : Byte) (payload : List Byte) : Except DecodeError Instr :=
  match (serTable c).lookup type with
  | some row => .ok (row payload)
  | none => .error .unknownType

/-- R210 to R212: the bytes of exactly one frame. -/
def decodeSer (c : SerialCodes) : List Byte → Except DecodeError Instr
  | start :: len :: rest =>
    if start ≠ c.start then .error .noStartByte
    else if len = c.lenEscape then
      match rest with
      | len2 :: type :: payload =>
        if payload.length + 4 = len2.toNat + c.len2Bias then decodeSerBody c type payload
        else .error .lengthMismatch
      | _ => .error .truncated
    else if len.toNat < 3 then .error .lengthTooSmall
    else
      match rest with
      | type :: payload =>
        if payload.length + 3 = len.toNat then decodeSerBody c type payload
        else .error .lengthMismatch
      | [] => .error .truncated
  | _ => .error .truncated

/-- R220: the record's kind selects the instruction. -/
def decodeTag (e : TaggedFrame) : Except DecodeError Instr :=
  match tagTable.lookup e.tag with
  | some row => .ok (row e.hasFrame e.frame e.hasRssi e.rssi)
  | none => .error .reservedTag

/-- The decoder: total, and a rejection has a name. Serial frames are read with the given codes, by default those
of R9, which are the opcode table's. -/
def decode (code : Code) (c : SerialCodes := .standard) : Except DecodeError Instr :=
  match code with
  | .port w => .ok (decodePort w)
  | .cmd w => decodeCmd w
  | .ser bytes => decodeSer c bytes
  | .tag e => decodeTag e

/-- A `PORT` word (R181); the reserved bits 37:32 are written 0. -/
def portWord (kind : BitVec 2) (sel : Byte) (off : BitVec 16) (data : Word) : BitVec 64 :=
  kind ++ sel ++ off ++ 0#6 ++ data

/-- A `CMD` word (R182). -/
def cmdWord (op : Byte) (imm : BitVec 24) : Word := op ++ imm

/-- The `PORT` word that issues a command: a write to register `CMD` (R82, R188). -/
def cmdPort (w : Word) : BitVec 64 := portWord 1#2 0x10#8 0#16 w

/-- The bytes of a serial frame (R210, R211, 47_serial_engine.md R540): the short form whenever it fits. -/
def serFrame (type : Byte) (payload : List Byte) (c : SerialCodes := .standard) : List Byte :=
  if payload.length + 3 ≤ 255 then
    c.start :: BitVec.ofNat 8 (payload.length + 3) :: type :: payload
  else
    c.start :: c.lenEscape :: BitVec.ofNat 8 (payload.length + 4 - c.len2Bias) :: type :: payload

/-- The encoder. Ignored bits are written 0. -/
def encode (i : Instr) (c : SerialCodes := .standard) : Code :=
  match i with
  | .rd sel => .port (portWord 0#2 sel 0#16 0#32)
  | .wr sel data => .port (portWord 1#2 sel 0#16 data)
  | .brd sel off => .port (portWord 2#2 sel off 0#32)
  | .bwr sel off data => .port (portWord 3#2 sel off (0#24 ++ data))
  | .nop => .cmd (cmdWord 0x00#8 0#24)
  | .genc d => .cmd (cmdWord 0x01#8 (0#12 ++ d))
  | .gdec w => .cmd (cmdWord 0x02#8 w)
  | .cencLsf => .cmd (cmdWord 0x03#8 0#24)
  | .cdecLsf => .cmd (cmdWord 0x04#8 0#24)
  | .cdecLsfSoft => .cmd (cmdWord 0x05#8 0#24)
  | .cencStr => .cmd (cmdWord 0x06#8 0#24)
  | .cdecStr => .cmd (cmdWord 0x07#8 0#24)
  | .cdecStrSoft => .cmd (cmdWord 0x08#8 0#24)
  | .ilv => .cmd (cmdWord 0x09#8 0#24)
  | .dilv => .cmd (cmdWord 0x0A#8 0#24)
  | .scr => .cmd (cmdWord 0x0B#8 0#24)
  | .crc16 n => .cmd (cmdWord 0x0C#8 (0#14 ++ n))
  | .lenc => .cmd (cmdWord 0x0D#8 0#24)
  | .ldec => .cmd (cmdWord 0x0E#8 0#24)
  | .rxInject tag hasRssi => .cmd (cmdWord 0x10#8 (0#20 ++ BitVec.ofBool hasRssi ++ tag))
  | .rxReset => .cmd (cmdWord 0x11#8 0#24)
  | .txStart => .cmd (cmdWord 0x20#8 0#24)
  | .txPayload eos => .cmd (cmdWord 0x21#8 (0#23 ++ BitVec.ofBool eos))
  | .txEnd => .cmd (cmdWord 0x22#8 0#24)
  | .txNextLsf => .cmd (cmdWord 0x23#8 0#24)
  | .linkOpen => .cmd (cmdWord 0x30#8 0#24)
  | .linkClose => .cmd (cmdWord 0x31#8 0#24)
  | .linkSetMode mode => .cmd (cmdWord 0x32#8 (0#16 ++ mode))
  | .evPop => .cmd (cmdWord 0x40#8 0#24)
  | .plPop => .cmd (cmdWord 0x41#8 0#24)
  | .serGetVersion p => .ser (serFrame c.getVersion p c)
  | .serGetStatus p => .ser (serFrame c.getStatus p c)
  | .serSetConfig p => .ser (serFrame c.setConfig p c)
  | .serSetMode p => .ser (serFrame c.setMode p c)
  | .serSetFreq p => .ser (serFrame c.setFreq p c)
  | .serM17LinkSetup p => .ser (serFrame c.linkSetup p c)
  | .serM17Stream p => .ser (serFrame c.stream p c)
  | .serM17Packet p => .ser (serFrame c.packet p c)
  | .serM17Lost p => .ser (serFrame c.lost p c)
  | .serAck p => .ser (serFrame c.ack p c)
  | .serNak p => .ser (serFrame c.nak p c)
  | .serDebug1 p => .ser (serFrame c.debug1 p c)
  | .serDebug2 p => .ser (serFrame c.debug2 p c)
  | .serDebug3 p => .ser (serFrame c.debug3 p c)
  | .serDebug4 p => .ser (serFrame c.debug4 p c)
  | .serDebug5 p => .ser (serFrame c.debug5 p c)
  | .tagHeader hf f hr r => .tag ⟨0#3, hf, f, hr, r⟩
  | .tagData hf f hr r => .tag ⟨1#3, hf, f, hr, r⟩
  | .tagData2 hf f hr r => .tag ⟨2#3, hf, f, hr, r⟩
  | .tagLost hf f hr r => .tag ⟨3#3, hf, f, hr, r⟩
  | .tagEot hf f hr r => .tag ⟨4#3, hf, f, hr, r⟩

/-- How many payload bytes a frame of this type needs at least, where R215 gives a number: the operand
bytes (all zero) that stand behind a bare type byte of the opcode table (log 11). -/
def tablePayload (type : Byte) : Nat :=
  if type = 0x45#8 ∨ type = 0x46#8 ∨ type = 0x47#8 then 48
  else if type = 0x00#8 ∨ type = 0x70#8 then 1
  else if type = 0x7F#8 then 2
  else 0

/-- An opcode-table word laid out in its format, told apart by how many bits the table gives the row:
64 for `PORT`, 32 for `CMD`, 8 for a `SER` type byte, 3 for a `TAG` kind (log 11). -/
def tableCode (nbits w : Nat) : Option Code :=
  if nbits = 64 then some (.port (BitVec.ofNat 64 w))
  else if nbits = 32 then some (.cmd (BitVec.ofNat 32 w))
  else if nbits = 8 then
    let type := BitVec.ofNat 8 w
    some (.ser (serFrame type (List.replicate (tablePayload type) 0#8)))
  else if nbits = 3 then
    let tag := BitVec.ofNat 3 w
    some (.tag ⟨tag, decide (tag ≠ 3#3), 0#384, false, 0#16⟩)
  else none

/-- The instruction the decoder reads from an opcode-table word. -/
def decodeTableWord (nbits w : Nat) : Option Instr :=
  match tableCode nbits w with
  | some c =>
    match decode c with
    | .ok i => some i
    | .error _ => none
  | none => none

end Sys2Proof
end

