-- ==== Sys2Proof/Machine/State.lean ====
section
/-! DEFINITION. The state of the block: every unit field, timer, queue, register and buffer of
10_state.md and 20_memory.md, the environment steps still to come, and reset (70_reset_and_hazards.md
R680). Read-only registers and view buffers have no storage: Flags.lean and Ops.lean compute them. -/

namespace Sys2Proof.Machine

/-- `st.rx_state` (R53). -/
inductive RxState where
  | listening | lateEntry | audio | audioData | data
deriving DecidableEq, Repr

/-- `st.tx_state` (R58). -/
inductive TxState where
  | none | header | audio | ending
deriving DecidableEq, Repr

/-- `st.ps`, the parser position (R62). -/
inductive ParserPos where
  | start | length1 | length2 | type | data
deriving DecidableEq, Repr

/-- `st.link_state` (R63). -/
inductive LinkState where
  | closed | version | config | freq | opened | backoff
deriving DecidableEq, Repr

/-- The error codes of 60_exceptions.md R620, in their order. -/
inductive ErrCode where
  | badOp | badAddr | golay | lichPos | crc | rejType | rejCan | sync | serFraming | serLen
  | serUnknown | nak | noResp | badVersion | watchdog | port | rxqOvf | txqOvf | evqOvf | plqOvf
  | txState | linkState | openFail
deriving DecidableEq, Repr

/-- Why a call ended (45_rx_sequencer.md R421). -/
inductive EndReason where
  | lost | eot | eos
deriving DecidableEq, Repr

/-- How a call started (R411): by a HEADER or by late entry. -/
inductive Via where
  | header | lateEntry
deriving DecidableEq, Repr

/-- Why a valid LSF was rejected (R410). -/
inductive RejectCause where
  | dataType | can
deriving DecidableEq, Repr

/-- The event records of 48_host_port.md R600; `eventBytes` gives their bytes. -/
inductive Event where
  | callStart (state : RxState) (via : Via) (lsf : Lsf)
  | callEnd (reason : EndReason) (prev : RxState) (frames bits errs : Word)
  | auxLsf (lsf : Lsf)
  | rssi (reading : BitVec 16)
  | reject (cause : RejectCause) (lsf : Lsf)
  | error (code : ErrCode)
  | link (state : LinkState) (version : Byte)
  | ackNak (type cmd reason : Byte)
  | debug (type len : Byte)
deriving DecidableEq, Repr

/-- A payload record of 20_memory.md R159; `recordBytes` gives its 21 bytes. -/
structure PayloadRecord where
  fn      : BitVec 16
  state   : RxState
  errs    : BitVec 16
  payload : Payload
deriving DecidableEq, Repr

/-- An `st.txq` entry (20_memory.md R158). -/
structure TxEntry where
  tag   : BitVec 3
  frame : RfFrame
deriving DecidableEq, Repr

/-- A timer (R66): whether it runs, and its elapsed milliseconds. -/
structure Timer where
  run : Bool
  el  : BitVec 32
deriving DecidableEq, Repr

/-- The timers of R67. -/
structure Timers where
  poll    : Timer
  wd      : Timer
  pace    : Timer
  backoff : Timer
  resp    : Timer
deriving DecidableEq, Repr

/-- A reassembly buffer (44_lsf_lich.md R367): an LSF and the positions stored since its reset. -/
structure LsfBuffer where
  lsf : Lsf
  cov : BitVec 6
deriving DecidableEq, Repr

/-- The receive sequencer's fields (R53 to R57): `primary` is `lsf_p`, `cov_p`; `running` is `lsf_r`,
`cov_r`. -/
structure RxUnit where
  state    : RxState
  primary  : LsfBuffer
  running  : LsfBuffer
  frames   : Word
  bits     : Word
  errs     : Word
  rejLatch : Bool
deriving DecidableEq, Repr

/-- The transmit builder's fields (R58 to R61). -/
structure TxUnit where
  state       : TxState
  hdrLsf      : Lsf
  nextPending : Bool
  lichLsf     : Lsf
  lichPos     : BitVec 3
  fn          : BitVec 15
  frames      : Word
deriving DecidableEq, Repr

/-- The serial parser's fields (R62). `buf` is `pbuf`, its `RXBUF_CAP` bytes in order. -/
structure Parser where
  pos  : ParserPos
  buf  : List Byte
  len  : BitVec 16
  off  : BitVec 16
  type : Byte
deriving DecidableEq, Repr

/-- The link controller's fields (R63 to R65). -/
structure LinkUnit where
  state        : LinkState
  portOpen     : Bool
  protoVersion : Byte
  space        : Byte
  modemMode    : Byte
  modemFlags   : Byte
  linkErr      : Bool
  autoReopen   : Bool
  lastNak      : Byte
  pendValid    : Bool
  pendCmd      : Byte
  tries        : Byte
deriving DecidableEq, Repr

/-- An environment step (00_scope.md R10, R11): a host transaction (R580), a tick (R500) or a reset
(R680). -/
inductive EnvStep where
  | port (w : BitVec 64)
  | tick (dt : Nat) (bytes : List Byte) (portOk : Bool)
  | reset
deriving DecidableEq, Repr

/-- Nothing stops the block: "The block never halts, locks up or enters an unrecoverable state"
(60_exceptions.md R629), and every error is the recorded error of R621. So there is no fault; safe (log 16). -/
inductive Fault where
deriving DecidableEq, Repr

/-- Why the model would give an instruction no meaning. -/
inductive Refusal where
  /-- Raised by an arm of `exec` whose instruction has no meaning yet; no arm is left so. Safe: the model
  stops where the block goes on. -/
  | notModelled (mnemonic : String)
deriving DecidableEq, Repr

/-- The state of the block. -/
structure State where
  /-- the parameters of R9; no step changes them (log 2) -/
  cfg       : Params
  rx        : RxUnit
  tx        : TxUnit
  parser    : Parser
  link      : LinkUnit
  timers    : Timers
  /-- the queues of R68, head first -/
  rxq       : List TaggedFrame
  txq       : List TxEntry
  evq       : List Event
  plq       : List PayloadRecord
  /-- `CTRL` (R72) -/
  ctrl      : Word
  /-- `ERR` (R73) -/
  err       : Word
  /-- `CFG1_LEN`, `CFG2_LEN`, `FREQ_LEN` (R81) -/
  cfg1Len   : BitVec 9
  cfg2Len   : BitVec 9
  freqLen   : BitVec 9
  /-- `RES0`, `RES1` (R83) -/
  res0      : Word
  res1      : Word
  /-- the buffer spaces with storage (R144), canonical (log 14) -/
  mem       : List Host.Cell
  /-- the bytes the current or last environment step wrote (R69, log 5) -/
  serialOut : List Byte
  /-- the value the last host transaction returned (R580, log 6) -/
  portOut   : Word
  /-- the environment steps still to come, next first (log 1) -/
  inputs    : List EnvStep
deriving DecidableEq, Repr

/-- R66: the reset value of every timer. -/
def Timer.idle : Timer := ⟨false, 0#32⟩

/-- R54, R55: an empty reassembly buffer. -/
def LsfBuffer.empty : LsfBuffer := ⟨0#240, 0#6⟩

/-- R53 to R57. -/
def RxUnit.initial : RxUnit := ⟨.listening, .empty, .empty, 0#32, 0#32, 0#32, false⟩

/-- R58 to R61. -/
def TxUnit.initial : TxUnit := ⟨.none, 0#240, false, 0#240, 0#3, 0#15, 0#32⟩

/-- R62; the bytes of `pbuf`, which have no reset value, are taken as 0 (R86). DESIGN CHOICE (log 4). -/
def Parser.initial (cap : Nat) : Parser := ⟨.start, List.replicate cap 0#8, 0#16, 0#16, 0#8⟩

/-- R63 to R65. -/
def LinkUnit.initial : LinkUnit :=
  ⟨.closed, false, 0#8, 0#8, 0#8, 0#8, false, false, 0#8, false, 0#8, 0#8⟩

/-- R66, R67. -/
def Timers.initial : Timers := ⟨.idle, .idle, .idle, .idle, .idle⟩

/-- The block with parameters `p` right after reset (R680). -/
def State.resetWith (p : Params) : State where
  cfg       := p
  rx        := .initial
  tx        := .initial
  parser    := .initial p.rxbufCap
  link      := .initial
  timers    := .initial
  rxq       := []
  txq       := []
  evq       := []
  plq       := []
  ctrl      := 0#32
  err       := 0#32
  cfg1Len   := 0#9
  cfg2Len   := 0#9
  freqLen   := 0#9
  res0      := 0#32
  res1      := 0#32
  mem       := []
  serialOut := []
  portOut   := 0#32
  inputs    := []

/-- The machine right after reset, with the configuration of `Params.illustrative` (log 2). -/
def State.reset : State := State.resetWith Params.illustrative

end Sys2Proof.Machine
end

