-- ==== Sys2Proof/Machine/Ops.lean ====
section
/-! DEFINITION. The named operations every rule uses: raising an error (60_exceptions.md R621), emitting
an event (48_host_port.md R601), the FIFOs (20_memory.md R150, R151), the buffer spaces (R144, R145) and
the timers (10_state.md R66). -/

namespace Sys2Proof.Machine

/-! ### Encodings of the named values -/

/-- R53. -/
def rxStateCode : RxState → BitVec 3
  | .listening => 0 | .lateEntry => 1 | .audio => 2 | .audioData => 3 | .data => 4

/-- R58. -/
def txStateCode : TxState → BitVec 2
  | .none => 0 | .header => 1 | .audio => 2 | .ending => 3

/-- R63. -/
def linkStateCode : LinkState → BitVec 3
  | .closed => 0 | .version => 1 | .config => 2 | .freq => 3 | .opened => 4 | .backoff => 5

/-- R620. -/
def errNum : ErrCode → Nat
  | .badOp => 0 | .badAddr => 1 | .golay => 2 | .lichPos => 3 | .crc => 4 | .rejType => 5
  | .rejCan => 6 | .sync => 7 | .serFraming => 8 | .serLen => 9 | .serUnknown => 10 | .nak => 11
  | .noResp => 12 | .badVersion => 13 | .watchdog => 14 | .port => 15 | .rxqOvf => 16
  | .txqOvf => 17 | .evqOvf => 18 | .plqOvf => 19 | .txState => 20 | .linkState => 21
  | .openFail => 22

/-- The `ERR` bit of an error code (R73). -/
def errBit (k : ErrCode) : Word := 1#32 <<< errNum k

/-- R421. -/
def endReasonCode : EndReason → Byte
  | .lost => 0 | .eot => 1 | .eos => 2

/-- R411. -/
def viaCode : Via → Byte
  | .header => 0 | .lateEntry => 1

/-- R410. -/
def rejectCode : RejectCause → Byte
  | .dataType => 1 | .can => 2

/-- The record's code and data of R600, multi-byte fields big-endian (R141). -/
def eventParts : Event → Byte × List Byte
  | .callStart st via lsf => (0x01, (rxStateCode st).setWidth 8 :: viaCode via :: bytesOfSeq lsf)
  | .callEnd reason prev frames bits errs =>
    (0x02, endReasonCode reason :: (rxStateCode prev).setWidth 8 ::
      (bytesOfSeq frames ++ bytesOfSeq bits ++ bytesOfSeq errs))
  | .auxLsf lsf => (0x03, bytesOfSeq lsf)
  | .rssi reading => (0x04, bytesOfSeq reading)
  | .reject cause lsf => (0x05, rejectCode cause :: bytesOfSeq lsf)
  | .error k => (0x06, [BitVec.ofNat 8 (errNum k)])
  | .link st version => (0x07, [(linkStateCode st).setWidth 8, version])
  | .ackNak type cmd reason => (0x08, [type, cmd, reason])
  | .debug type len => (0x09, [type, len])

/-- An event record's bytes: `code, len, data` (R600). -/
def eventBytes (ev : Event) : List Byte :=
  (eventParts ev).1 :: BitVec.ofNat 8 (eventParts ev).2.length :: (eventParts ev).2

/-- A payload record's 21 bytes (R159). -/
def recordBytes (r : PayloadRecord) : List Byte :=
  bytesOfSeq r.fn ++ (rxStateCode r.state).setWidth 8 :: (bytesOfSeq r.errs ++ bytesOfSeq r.payload)

/-! ### Errors and events -/

/-- `emit(ev)` (R601): a full event FIFO drops the record and sets `ERR` bit `E_EVQ_OVF`, no more. -/
def emit (ev : Event) (s : State) : State :=
  if s.evq.length < s.cfg.evqCap then { s with evq := s.evq ++ [ev] }
  else { s with err := s.err ||| errBit .evqOvf }

/-- `raise Error(k)` (R621): the block's whole entry into error handling (R650). Nothing is rolled back and
the step goes on. -/
def raise (k : ErrCode) (s : State) : State :=
  let s := { s with err := s.err ||| errBit k }
  if k = .evqOvf then s else emit (.error k) s

/-- The host's return from error handling (R651): writing 1 to an `ERR` bit clears it, bits 31:23 stay 0
(R73, R582). -/
def clearErr (data : Word) (s : State) : State :=
  { s with err := s.err &&& ~~~(data &&& 0x007FFFFF#32) }

/-! ### FIFOs: a full queue drops the incoming entry and raises its error (R150, R151) -/

/-- `push(rxq, e)`. -/
def pushRxq (e : TaggedFrame) (s : State) : State :=
  if s.rxq.length < s.cfg.rxqCap then { s with rxq := s.rxq ++ [e] } else raise .rxqOvf s

/-- `push(txq, e)` (46_tx_builder.md R469). -/
def pushTxq (e : TxEntry) (s : State) : State :=
  if s.txq.length < s.cfg.txqCap then { s with txq := s.txq ++ [e] } else raise .txqOvf s

/-- `push(plq, r)` (48_host_port.md R602). -/
def pushPlq (r : PayloadRecord) (s : State) : State :=
  if s.plq.length < s.cfg.plqCap then { s with plq := s.plq ++ [r] } else raise .plqOvf s

/-! ### Memory: a canonical list of cells; an unlisted address reads 0, its reset value (R144) -/

/-- The byte at an address. -/
def Memory.read : List Host.Cell → Nat → Byte
  | [], _ => 0#8
  | (b, v) :: rest, a => if a = b then v else Memory.read rest a

/-- The cells at every other address. -/
def Memory.erase (a : Nat) (m : List Host.Cell) : List Host.Cell := m.filter fun c => c.1 != a

/-- A cell put before the first cell of a higher address. -/
def Memory.insert (a : Nat) (v : Byte) : List Host.Cell → List Host.Cell
  | [] => [(a, v)]
  | c :: rest => if a < c.1 then (a, v) :: c :: rest else c :: Memory.insert a v rest

/-- One byte stored, addresses kept strictly rising and no entry 0. -/
def Memory.write (m : List Host.Cell) (a : Nat) (v : Byte) : List Host.Cell :=
  if v = 0#8 then Memory.erase a m else Memory.insert a v (Memory.erase a m)

/-- Bytes stored at rising addresses from `a`. -/
def Memory.writeBytes : List Host.Cell → Nat → List Byte → List Host.Cell
  | m, _, [] => m
  | m, a, v :: rest => Memory.writeBytes (Memory.write m a v) (a + 1) rest

/-- The canonical form: addresses strictly rising, no entry 0. -/
abbrev Memory.wf (m : List Host.Cell) : Prop :=
  m.Pairwise (fun x y => x.1 < y.1) ∧ ∀ c ∈ m, c.2 ≠ 0#8

/-! ### Buffer spaces (R144) -/

def spTxLsf : Byte := 0#8
def spNextLsf : Byte := 1#8
def spRxLsf : Byte := 2#8
def spRunLsf : Byte := 3#8
def spCfg1 : Byte := 4#8
def spCfg2 : Byte := 5#8
def spFreq : Byte := 6#8
def spScrIn : Byte := 7#8
def spScrOut : Byte := 8#8
def spEvBuf : Byte := 9#8
def spPlBuf : Byte := 10#8
def spHdrLsf : Byte := 11#8
def spLichLsf : Byte := 12#8

/-- R144: each space's size and whether the host may write it; spaces 13..255 are reserved. -/
def spaceTable : List (Byte × (Nat × Bool)) :=
  [ (spTxLsf, 30, true), (spNextLsf, 30, true), (spRxLsf, 30, false), (spRunLsf, 30, false),
    (spCfg1, 256, true), (spCfg2, 256, true), (spFreq, 256, true), (spScrIn, 512, true),
    (spScrOut, 512, false), (spEvBuf, 64, false), (spPlBuf, 32, false), (spHdrLsf, 30, false),
    (spLichLsf, 30, false) ]

/-- The address of a byte of a space with storage (log 14). -/
def cellAddr (space : Byte) (off : Nat) : Nat := space.toNat * 65536 + off

/-- The unit field a view space shows (R144). -/
def viewOf (space : Byte) (s : State) : Option Lsf :=
  if space = spRxLsf then some s.rx.primary.lsf
  else if space = spRunLsf then some s.rx.running.lsf
  else if space = spHdrLsf then some s.tx.hdrLsf
  else if space = spLichLsf then some s.tx.lichLsf
  else none

/-- One byte of a buffer space. -/
def bufByte (space : Byte) (off : Nat) (s : State) : Byte :=
  match viewOf space s with
  | some lsf => byteAt lsf off
  | none => Memory.read s.mem (cellAddr space off)

/-- `MemRead(space, off, n)` (R145). -/
def memRead (space : Byte) (off n : Nat) (s : State) : List Byte :=
  (List.range n).map fun j => bufByte space (off + j) s

/-- `MemWrite(space, off, n, v)` of a space with storage (R145). -/
def memWrite (space : Byte) (off : Nat) (bytes : List Byte) (s : State) : State :=
  { s with mem := Memory.writeBytes s.mem (cellAddr space off) bytes }

/-- R583: a host byte read; reserved spaces and offsets past the end read 0 and raise `E_BAD_ADDR`. -/
def hostBufRead (space : Byte) (off : Nat) (s : State) : Byte × State :=
  match spaceTable.lookup space with
  | some (size, _) => if off < size then (bufByte space off s, s) else (0#8, raise .badAddr s)
  | none => (0#8, raise .badAddr s)

/-- R584: a host byte write; a reserved or read-only space, or an offset past the end, changes nothing and
raises `E_BAD_ADDR`. -/
def hostBufWrite (space : Byte) (off : Nat) (v : Byte) (s : State) : State :=
  match spaceTable.lookup space with
  | some (size, writable) =>
    if off < size ∧ writable = true then memWrite space off [v] s else raise .badAddr s
  | none => raise .badAddr s

/-! ### Timers (R66) -/

/-- `start(t)`. -/
def timerStart : Timer := ⟨true, 0#32⟩

/-- `stop(t)`: the elapsed count is kept. -/
def timerStop (t : Timer) : Timer := { t with run := false }

/-- `advance(t, dt)`. -/
def timerAdvance (dt : Nat) (t : Timer) : Timer :=
  if t.run then { t with el := satAdd32 t.el dt } else t

/-- `expired(t, T)`. -/
def timerExpired (t : Timer) (period : Nat) : Bool := t.run && decide (period ≤ t.el.toNat)

/-! ### Serial output (R69, 47_serial_engine.md R540) -/

/-- `sendFrame(t, P)`. -/
def sendFrame (type : Byte) (payload : List Byte) (s : State) : State :=
  { s with serialOut := s.serialOut ++ serFrame type payload s.cfg.serial }

end Sys2Proof.Machine
end

