-- ==== Sys2Proof/Machine/Operands.lean ====
section
/-! DEFINITION. The operand forms of the data-path commands (30_encoding.md R182, R183, 48_host_port.md
R585): fixed offsets of `SCR_IN` and `SCR_OUT`, immediates zero-extended, scalar results in `RES0` and
`RES1`. -/

namespace Sys2Proof.Machine

/-- The first `k` bytes of `SCR_IN`. -/
def scrInBytes (k : Nat) (s : State) : List Byte := memRead spScrIn 0 k s

/-- The first `n / 8` bytes of `SCR_IN` as a bit sequence. -/
def scrInSeq (n : Nat) (s : State) : BitVec n := seqOfBytes n (scrInBytes (n / 8) s)

/-- A bit sequence stored from byte 0 of `SCR_OUT`; the bytes behind it stay. -/
def putScrOut {n : Nat} (v : BitVec n) (s : State) : State := memWrite spScrOut 0 (bytesOfSeq v) s

/-- `reg[RES0] <- v`. -/
def putRes0 (v : Word) (s : State) : State := { s with res0 := v }

/-- `reg[RES0] <- v; reg[RES1] <- w`. -/
def putRes (v w : Word) (s : State) : State := { s with res0 := v, res1 := w }

/-- `CFG1[0 .. CFG1_LEN−1]`, `CFG2[…]` or `FREQ[…]` (47_serial_engine.md R528), read when it is sent. -/
def configPayload (space : Byte) (len : BitVec 9) (s : State) : List Byte := memRead space 0 len.toNat s

end Sys2Proof.Machine
end

