-- ==== Sys2Proof/Machine/BitTransform.lean ====
section
/-! DEFINITION. Unit BTL: the interleaver and the scrambler of 41_bit_transform.md, and the commands ILV,
DILV and SCR. -/

namespace Sys2Proof.Machine

/-- R251: bit i of the natural order goes to position `P(i)`. -/
def interleave (p : List Nat) (s : Body) : Body :=
  (p.zip (seqBits s)).foldl
    (fun out pb => if pb.2 then out ||| (1#368 <<< (367 - pb.1)) else out) 0#368

/-- R252: bit i is read from position `P(i)`. -/
def deinterleave (p : List Nat) (s : Body) : Body := seqOfBits 368 (p.map fun j => s.getMsbD j)

/-- R256: each byte exclusive-or its key byte. -/
def scramble (key : Body) (s : Body) : Body := s ^^^ key

/-- R259: the transmit order, interleave and then scramble. -/
def txBody (c : Codec) (coded : Body) : Body := scramble c.scrambleKey (interleave c.interleaveP coded)

/-- R260 and 45_rx_sequencer.md R403: the receive order, descramble and then deinterleave. -/
def rxBody (c : Codec) (frame : RfFrame) : Body :=
  deinterleave c.interleaveP (scramble c.scrambleKey (frame.extractLsb' 0 368))

/-- R253. -/
def doIlv (s : State) : State := putScrOut (interleave s.cfg.codec.interleaveP (scrInSeq 368 s)) s

/-- R254. -/
def doDilv (s : State) : State := putScrOut (deinterleave s.cfg.codec.interleaveP (scrInSeq 368 s)) s

/-- R258. -/
def doScr (s : State) : State := putScrOut (scramble s.cfg.codec.scrambleKey (scrInSeq 368 s)) s

def execIlv (s : State) : Host.Outcome State Fault Refusal := .next (doIlv s)
def execDilv (s : State) : Host.Outcome State Fault Refusal := .next (doDilv s)
def execScr (s : State) : Host.Outcome State Fault Refusal := .next (doScr s)

end Sys2Proof.Machine
end

