-- ==== Sys2Proof/Machine/Convolutional.lean ====
section
/-! DEFINITION. Unit CNV: the convolutional encoder with puncturing and the soft-decision Viterbi decoder
of 43_convolutional.md, and the commands CENC_LSF, CDEC_LSF, CDEC_LSF_SOFT, CENC_STR, CDEC_STR and
CDEC_STR_SOFT. -/

namespace Sys2Proof.Machine

/-! ### Encoder -/

/-- R311, R312: one output bit for generator `g`, state `σ` (`σ[3]` the last input) and input `u`. -/
def convOut (g : BitVec 5) (σ : BitVec 4) (u : Bool) : Bool :=
  (g.getLsbD 0 && u) ^^ (g.getLsbD 1 && σ.getLsbD 3) ^^ (g.getLsbD 2 && σ.getLsbD 2) ^^
    (g.getLsbD 3 && σ.getLsbD 1) ^^ (g.getLsbD 4 && σ.getLsbD 0)

/-- R312: the next encoder state. -/
def convNext (σ : BitVec 4) (u : Bool) : BitVec 4 := ((BitVec.ofBool u).setWidth 4 <<< 3) ||| (σ >>> 1)

/-- R313: the output bits from state `σ`, the `G1` bit of each input first. -/
def convRun (c : Codec) (σ : BitVec 4) : List Bool → List Bool
  | [] => []
  | u :: rest => convOut c.convG1 σ u :: convOut c.convG2 σ u :: convRun c (convNext σ u) rest

/-- R313: the encoder starts in state 0 and is flushed with four 0 bits. -/
def convEncode (c : Codec) (u : List Bool) : List Bool :=
  convRun c 0#4 (u ++ [false, false, false, false])

/-- R316: the coded bits whose pattern entry is 1, in order; `j` is the index of the first. -/
def punctureFrom {α : Type} (pat : List Bool) : Nat → List α → List α
  | _, [] => []
  | j, b :: rest =>
    if pat.getD (j % pat.length) false then b :: punctureFrom pat (j + 1) rest
    else punctureFrom pat (j + 1) rest

/-- R316. -/
def puncture {α : Type} (pat : List Bool) (bits : List α) : List α := punctureFrom pat 0 bits

/-- R317. -/
def encodeLinkSetup (c : Codec) (lsf : BitVec 240) : BitVec 368 :=
  seqOfBits 368 (puncture c.punctP1 (convEncode c (seqBits lsf)))

/-- `seqOf_FN_BITS(fn) ‖ seqOfBytes(payload)` (R318), taken from the 16-bit and 16-byte slots of `fb`: the low
`FN_BITS` bits of the one and the first `PAYLOAD_BYTES` bytes of the other. All of `fb` by default. -/
def blockOfSlots (c : Codec) (fb : BitVec 144) : List Bool :=
  ((seqBits fb).drop (16 - c.fnBits.val)).take c.blockBits

/-- The slots of a block's data bits; what the block does not carry is 0. DESIGN CHOICE for blocks smaller than the
default (log 22). -/
def slotsOfBlock (c : Codec) (bits : List Bool) : BitVec 144 :=
  seqOfBits 144
    (List.replicate (16 - c.fnBits.val) false ++ bits ++ List.replicate (8 * (16 - c.payloadBytes.val)) false)

/-- R318, of the frame number and the payload, `fn ‖ payload`, in their slots. -/
def encodeData (c : Codec) (fb : BitVec 144) : BitVec 272 :=
  seqOfBits 272 (puncture c.punctP2 (convEncode c (blockOfSlots c fb)))

/-! ### Soft-decision decoder -/

/-- R321: `m` full-rate symbols from index `j` on; a punctured position is an erasure. -/
def depunctureFrom (smax : Nat) (pat : List Bool) : Nat → Nat → List Nat → List Nat
  | 0, _, _ => []
  | m + 1, j, r =>
    if pat.getD (j % pat.length) false then
      r.headD (smax / 2) :: depunctureFrom smax pat m (j + 1) r.tail
    else smax / 2 :: depunctureFrom smax pat m (j + 1) r

/-- `|a − b|`. -/
def absDiff (a b : Nat) : Nat := if a ≤ b then b - a else a - b

/-- R322: the metric of the branch from state `p` with input `u`, for the symbols `z0`, `z1` of its step. -/
def branchMetric (c : Codec) (z0 z1 : Nat) (p : BitVec 4) (u : Bool) : Nat :=
  absDiff z0 (c.smax * (convOut c.convG1 p u).toNat) + absDiff z1 (c.smax * (convOut c.convG2 p u).toNat)

/-- R324: the predecessors of state `t` are `((t & 7) << 1) | j`. -/
def predecessor (t : BitVec 4) (j : Bool) : BitVec 4 :=
  ((t &&& 7#4) <<< 1) ||| (BitVec.ofBool j).setWidth 4

/-- A path metric plus a branch metric; `none` is the unreachable metric of R323. -/
def addMetric (m : Option Nat) (b : Nat) : Option Nat := m.map (· + b)

/-- R324: whether the predecessor with low bit 1 wins; a tie goes to low bit 0. -/
def secondWins : Option Nat → Option Nat → Bool
  | _, none => false
  | none, some _ => true
  | some m0, some m1 => decide (m1 < m0)

/-- R324 for one next state: its metric and its decision bit. -/
def acsState (c : Codec) (pm : List (Option Nat)) (z0 z1 : Nat) (t : BitVec 4) : Option Nat × Bool :=
  let u := t.getLsbD 3
  let p0 := predecessor t false
  let p1 := predecessor t true
  let m0 := addMetric (pm.getD p0.toNat none) (branchMetric c z0 z1 p0 u)
  let m1 := addMetric (pm.getD p1.toNat none) (branchMetric c z0 z1 p1 u)
  if secondWins m0 m1 then (m1, true) else (m0, false)

/-- The 16 states in order. -/
def trellisStates : List (BitVec 4) := (List.range 16).map (BitVec.ofNat 4)

/-- R324 for every step: the last path metrics, and the decision rows with the last step's first. -/
def acsRun (c : Codec) : List (Option Nat) → List (List Bool) → List Nat → List (Option Nat) × List (List Bool)
  | pm, rows, z0 :: z1 :: rest =>
    let row := trellisStates.map (acsState c pm z0 z1)
    acsRun c (row.map Prod.fst) (row.map Prod.snd :: rows) rest
  | pm, rows, _ => (pm, rows)

/-- R323: state 0 at metric 0, every other state unreachable. -/
def startMetrics : List (Option Nat) := some 0 :: List.replicate 15 none

/-- R325: the inputs on the path that ends in state `t`, decision rows given last step first. -/
def traceback : BitVec 4 → List (List Bool) → List Bool → List Bool
  | _, [], path => path
  | t, row :: rows, path =>
    traceback (predecessor t (row.getD t.toNat false)) rows (t.getLsbD 3 :: path)

/-- R327: the received symbols, erasures apart, whose hard decision differs from the re-encoded bit. -/
def bitErrors (smax : Nat) (r : List Nat) (bits : List Bool) : Nat :=
  (r.zip bits).countP fun rb => decide (2 * rb.1 ≠ smax) && (decide (2 * rb.1 > smax) != rb.2)

/-- R326: the decoded bits, the error count and the final path metric. -/
def viterbiDecode (c : Codec) (pat : List Bool) (n : Nat) (r : List Nat) : List Bool × Nat × Nat :=
  let z := depunctureFrom c.smax pat (2 * (n + 4)) 0 r
  let run := acsRun c startMetrics [] z
  let u := (traceback 0#4 run.2 []).take n
  (u, bitErrors c.smax r (puncture pat (convEncode c u)), ((run.1.getD 0 none).getD 0))

/-- R320: a hard bit enters as 0 or `SMAX`. -/
def hardSymbols (c : Codec) (bits : List Bool) : List Nat := bits.map fun b => b.toNat * c.smax

/-- R328, hard path of the LSF block. -/
def decodeLinkSetup (c : Codec) (b : BitVec 368) : BitVec 240 × Nat × Nat :=
  let r := viterbiDecode c c.punctP1 240 (hardSymbols c (seqBits b))
  (seqOfBits 240 r.1, r.2.1, r.2.2)

/-- A stream block decoded into its slots; the frame number is the first 16 bits (R328). -/
def decodeBlock (c : Codec) (symbols : List Nat) : BitVec 144 × Nat × Nat :=
  let r := viterbiDecode c c.punctP2 c.blockBits symbols
  (slotsOfBlock c r.1, r.2.1, r.2.2)

/-- R328, hard path of the stream block. -/
def decodeData (c : Codec) (b : BitVec 272) : BitVec 144 × Nat × Nat :=
  decodeBlock c (hardSymbols c (seqBits b))

/-- R320: the soft path reads one byte per symbol from `SCR_IN`, clamped to `SMAX`. -/
def scrInSymbols (k : Nat) (s : State) : List Nat :=
  (scrInBytes k s).map fun b => min b.toNat s.cfg.codec.smax

/-! ### Commands -/

/-- The results of a decode command: the data in `SCR_OUT`, the error count in `RES0` and the metric in
`RES1` (R330). The metric is kept modulo 2^32, which R335 shows no loss below `SMAX` = 2^22 (log 10). -/
def putDecoded {n : Nat} (r : BitVec n × Nat × Nat) (s : State) : State :=
  putRes (BitVec.ofNat 32 (min r.2.1 (2 ^ 32 - 1))) (BitVec.ofNat 32 r.2.2) (putScrOut r.1 s)

/-- R319. -/
def doCencLsf (s : State) : State := putScrOut (encodeLinkSetup s.cfg.codec (scrInSeq 240 s)) s

/-- R330. -/
def doCdecLsf (s : State) : State := putDecoded (decodeLinkSetup s.cfg.codec (scrInSeq 368 s)) s

/-- R331. -/
def doCdecLsfSoft (s : State) : State :=
  let r := viterbiDecode s.cfg.codec s.cfg.codec.punctP1 240 (scrInSymbols 368 s)
  putDecoded (seqOfBits 240 r.1, r.2.1, r.2.2) s

/-- R332. -/
def doCencStr (s : State) : State := putScrOut (encodeData s.cfg.codec (scrInSeq 144 s)) s

/-- R333. -/
def doCdecStr (s : State) : State := putDecoded (decodeData s.cfg.codec (scrInSeq 272 s)) s

/-- R334. -/
def doCdecStrSoft (s : State) : State :=
  putDecoded (decodeBlock s.cfg.codec (scrInSymbols 272 s)) s

def execCencLsf (s : State) : Host.Outcome State Fault Refusal := .next (doCencLsf s)
def execCdecLsf (s : State) : Host.Outcome State Fault Refusal := .next (doCdecLsf s)
def execCdecLsfSoft (s : State) : Host.Outcome State Fault Refusal := .next (doCdecLsfSoft s)
def execCencStr (s : State) : Host.Outcome State Fault Refusal := .next (doCencStr s)
def execCdecStr (s : State) : Host.Outcome State Fault Refusal := .next (doCdecStr s)
def execCdecStrSoft (s : State) : Host.Outcome State Fault Refusal := .next (doCdecStrSoft s)

end Sys2Proof.Machine
end

