-- ==== Sys2Proof/Machine/Flags.lean ====
section
/-! DEFINITION. The fields of `CTRL` (10_state.md R72), the read-only registers computed from the units
(R71 to R83), the register map (R70) and the interrupt line (60_exceptions.md R640). -/

namespace Sys2Proof.Machine

/-- `CTRL.CANF_EN`. -/
def canfEn (s : State) : Bool := s.ctrl.getLsbD 0

/-- `CTRL.CANF_VAL`. -/
def canfVal (s : State) : BitVec 4 := s.ctrl.extractLsb' 4 4

/-- `CTRL.CHECK_SYNC`. -/
def checkSync (s : State) : Bool := s.ctrl.getLsbD 8

/-- `CTRL.EOS_END`. -/
def eosEnd (s : State) : Bool := s.ctrl.getLsbD 9

/-- `CTRL.IE_EV`. -/
def ieEv (s : State) : Bool := s.ctrl.getLsbD 16

/-- `CTRL.IE_ERR`. -/
def ieErr (s : State) : Bool := s.ctrl.getLsbD 17

/-- The bits of `CTRL` that a write keeps (R582). -/
def ctrlMask : Word := 0x000303F1#32

/-- R71. -/
def idValue : Word := 0x4D313701#32

/-- R74. -/
def rxStat (s : State) : Word :=
  0#7 ++ BitVec.ofBool s.rx.rejLatch ++ 0#2 ++ s.rx.running.cov ++ 0#2 ++ s.rx.primary.cov ++ 0#5 ++
    rxStateCode s.rx.state

/-- R76. -/
def txStat (s : State) : Word :=
  0#1 ++ s.tx.fn ++ 0#8 ++ BitVec.ofBool s.tx.nextPending ++ s.tx.lichPos ++ 0#2 ++
    txStateCode s.tx.state

/-- R78. -/
def linkStat (s : State) : Word :=
  s.link.tries ++ s.link.space ++ s.link.protoVersion ++ 0#1 ++ BitVec.ofBool s.link.portOpen ++
    BitVec.ofBool s.link.pendValid ++ BitVec.ofBool s.link.autoReopen ++
    BitVec.ofBool s.link.linkErr ++ linkStateCode s.link.state

/-- R79. -/
def modemStat (s : State) : Word :=
  s.link.pendCmd ++ s.link.lastNak ++ s.link.modemFlags ++ s.link.modemMode

/-- R80: each count is at most 255. -/
def countByte (n : Nat) : Byte := BitVec.ofNat 8 (min n 255)

/-- R80. -/
def qStat (s : State) : Word :=
  countByte s.plq.length ++ countByte s.evq.length ++ countByte s.txq.length ++
    countByte s.rxq.length

/-- The register map of R70: what a read of each defined index returns; `none` is a reserved index. -/
def readReg (sel : Byte) (s : State) : Option Word :=
  match sel.toNat with
  | 0x00 => some idValue
  | 0x01 => some s.ctrl
  | 0x02 => some s.err
  | 0x03 => some (rxStat s)
  | 0x04 => some s.rx.frames
  | 0x05 => some s.rx.bits
  | 0x06 => some s.rx.errs
  | 0x07 => some (txStat s)
  | 0x08 => some s.tx.frames
  | 0x09 => some (linkStat s)
  | 0x0A => some (modemStat s)
  | 0x0B => some (qStat s)
  | 0x0C => some (s.cfg1Len.setWidth 32)
  | 0x0D => some (s.cfg2Len.setWidth 32)
  | 0x0E => some (s.freqLen.setWidth 32)
  | 0x10 => some 0#32
  | 0x11 => some s.res0
  | 0x12 => some s.res1
  | _ => none

/-- `IRQ` (R640), a function of the state. -/
def irq (s : State) : Bool :=
  (ieEv s && (decide (0 < s.evq.length) || decide (0 < s.plq.length))) ||
    (ieErr s && decide (s.err ≠ 0#32))

end Sys2Proof.Machine
end

