-- ==== Sys2Proof/Machine/Golay.lean ====
section
/-! DEFINITION. Unit GOL: the extended Golay(24,12) code of 42_golay.md, and the commands GENC and GDEC. -/

namespace Sys2Proof.Machine

/-- R281: the remainder of `d(x)·x^11` by the generator, by long division from bit 22 down to bit 11. -/
def golayCheck (poly : BitVec 12) (d : BitVec 12) : BitVec 11 :=
  let r := [22, 21, 20, 19, 18, 17, 16, 15, 14, 13, 12, 11].foldl
    (fun (r : BitVec 23) k => if r.getLsbD k then r ^^^ (poly.setWidth 23 <<< (k - 11)) else r)
    (d.setWidth 23 <<< 11)
  r.setWidth 11

/-- R280, R282, R283: data in bits 23:12, check bits in 11:1, even parity in bit 0. -/
def golayEncode (poly : BitVec 12) (d : BitVec 12) : BitVec 24 :=
  let c23 := (d.setWidth 23 <<< 11) ||| (golayCheck poly d).setWidth 23
  (c23.setWidth 24 <<< 1) ||| BitVec.ofNat 24 (popcount c23 % 2)

/-- The numbers below `2 ^ n` with exactly `k` ones. -/
def masksOfWeight : Nat → Nat → List Nat
  | 0, _ => [0]
  | _ + 1, 0 => []
  | k + 1, n + 1 => masksOfWeight (k + 1) n ++ (masksOfWeight k n).map (· + 2 ^ n)

/-- The error patterns of up to 3 bits in the 12 data bits. A codeword within distance 3 of `w` has its
data within distance 3 of `w[23:12]`, so these are all that R286 need try (`mem_dataErrors`). -/
def dataErrors : List (BitVec 12) :=
  (masksOfWeight 0 12 ++ masksOfWeight 1 12 ++ masksOfWeight 2 12 ++ masksOfWeight 3 12).map
    (BitVec.ofNat 12)

/-- R286, R287: the data of the codeword within distance 3 and `true`, or else the received data bits and
`false`. With the default generator there is at most one such codeword (R285). With a configured `GOLAY_POLY` of
smaller distance there may be several, R286 does not say which one wins, and the first in the order of `dataErrors`
is taken: fewest data-bit errors first. DESIGN CHOICE (log 21). -/
def golayDecode (poly : BitVec 12) (w : BitVec 24) : BitVec 12 × Bool :=
  let d0 : BitVec 12 := w.extractLsb' 12 12
  match dataErrors.find? fun e => decide (popcount (golayEncode poly (d0 ^^^ e) ^^^ w) ≤ 3) with
  | some e => (d0 ^^^ e, true)
  | none => (d0, false)

/-- R284. -/
def doGenc (d : BitVec 12) (s : State) : State :=
  putRes ((golayEncode s.cfg.codec.golayPoly d).setWidth 32) 0#32 s

/-- R288. -/
def doGdec (w : BitVec 24) (s : State) : State :=
  let r := golayDecode s.cfg.codec.golayPoly w
  putRes (r.1.setWidth 32) ((BitVec.ofBool r.2).setWidth 32) s

def execGenc (d : BitVec 12) (s : State) : Host.Outcome State Fault Refusal := .next (doGenc d s)
def execGdec (w : BitVec 24) (s : State) : Host.Outcome State Fault Refusal := .next (doGdec w s)

end Sys2Proof.Machine
end

