-- ==== Sys2Proof/Machine/LsfLich.lean ====
section
/-! DEFINITION. Unit LSF: the fields and the CRC16 of a Link Setup Frame, its LICH fragments and the
reassembly buffers of 44_lsf_lich.md, and the commands CRC16, LENC and LDEC. -/

namespace Sys2Proof.Machine

/-! ### Fields (R360 to R362) -/

/-- `DST`, bytes 0..5, opaque. -/
def lsfDst (l : Lsf) : BitVec 48 := l.extractLsb' 192 48

/-- `SRC`, bytes 6..11, opaque. -/
def lsfSrc (l : Lsf) : BitVec 48 := l.extractLsb' 144 48

/-- `lsfType`: bytes 12..13. -/
def lsfType (l : Lsf) : BitVec 16 := l.extractLsb' 128 16

/-- `PS`: 1 is stream. -/
def streamBit (l : Lsf) : Bool := (lsfType l).getLsbD 0

/-- `DT`. -/
def dataType (l : Lsf) : BitVec 2 := (lsfType l).extractLsb' 1 2

/-- `ET`. -/
def encType (l : Lsf) : BitVec 2 := (lsfType l).extractLsb' 3 2

/-- `ES`. -/
def encSub (l : Lsf) : BitVec 2 := (lsfType l).extractLsb' 5 2

/-- `CAN`. -/
def lsfCan (l : Lsf) : BitVec 4 := (lsfType l).extractLsb' 7 4

/-- `getMeta`: bytes 14..27. -/
def getMeta (l : Lsf) : BitVec 112 := l.extractLsb' 16 112

/-- `setMeta`: the CRC is not recomputed. -/
def setMeta (l : Lsf) (m : BitVec 112) : Lsf := l.extractLsb' 128 112 ++ m ++ l.extractLsb' 0 16

/-- The bytes 0..27 that the CRC covers. -/
def lsfCovered (l : Lsf) : BitVec 224 := l.extractLsb' 16 224

/-- The `CRC` field, bytes 28..29. -/
def lsfCrc (l : Lsf) : BitVec 16 := l.extractLsb' 0 16

/-! ### CRC16 (R363, R364) -/

/-- One of the eight shifts of R363. -/
def crcShift (poly c : BitVec 16) : BitVec 16 :=
  if c.getLsbD 15 then (c <<< 1) ^^^ poly else c <<< 1

/-- One byte of R363. -/
def crcByte (poly c : BitVec 16) (b : Byte) : BitVec 16 :=
  (List.range 8).foldl (fun c _ => crcShift poly c) (c ^^^ (b.setWidth 16 <<< 8))

/-- `crc16` (R363). -/
def crc16Of (c : Codec) (bytes : List Byte) : BitVec 16 := bytes.foldl (crcByte c.crcPoly) c.crcInit

/-- `crcOk` (R364). -/
def crcOk (c : Codec) (l : Lsf) : Bool := decide (crc16Of c (bytesOfSeq (lsfCovered l)) = lsfCrc l)

/-- `lsfSeal` (R364). -/
def lsfSeal (c : Codec) (l : Lsf) : Lsf := lsfCovered l ++ crc16Of c (bytesOfSeq (lsfCovered l))

/-! ### Reassembly buffers (R367, R368) -/

/-- The bytes `5n .. 5n+4` of an LSF. -/
def lsfSlice (l : Lsf) (n : Nat) : BitVec 40 := (l >>> (200 - 40 * n)).setWidth 40

/-- `setWhole`. -/
def setWhole (l : Lsf) : LsfBuffer := ⟨l, 0b111111#6⟩

/-- `setFragment`, for `n` in 0..5: the latest fragment for a position wins. -/
def setFragment (buf : LsfBuffer) (f : Fragment) (n : Nat) : LsfBuffer :=
  let sh := 200 - 40 * n
  let hole : Lsf := ~~~((BitVec.allOnes 40).setWidth 240 <<< sh)
  ⟨(buf.lsf &&& hole) ||| ((f.extractLsb' 8 40).setWidth 240 <<< sh), buf.cov ||| (1#6 <<< n)⟩

/-- `isValid`: full coverage and the CRC (90_conflicts.md C1). -/
def isValid (c : Codec) (buf : LsfBuffer) : Bool := decide (buf.cov = 0b111111#6) && crcOk c buf.lsf

/-! ### LICH fragments (R370 to R373, R379) -/

/-- `getFragment`, for `n` in 0..5. -/
def getFragment (l : Lsf) (n : BitVec 3) : Fragment := lsfSlice l n.toNat ++ n ++ 0#5

/-- R370: the position a fragment carries. -/
def fragmentPos (f : Fragment) : BitVec 3 := f.extractLsb' 5 3

/-- `lichEncode` (R372). -/
def lichEncode (c : Codec) (f : Fragment) : Lich :=
  golayEncode c.golayPoly (f.extractLsb' 36 12) ++ golayEncode c.golayPoly (f.extractLsb' 24 12) ++
    golayEncode c.golayPoly (f.extractLsb' 12 12) ++ golayEncode c.golayPoly (f.extractLsb' 0 12)

/-- `lichDecode` (R373): the fragment and, bit i for codeword i, which codewords decoded. -/
def lichDecode (c : Codec) (b : Lich) : Fragment × BitVec 4 :=
  let r0 := golayDecode c.golayPoly (b.extractLsb' 72 24)
  let r1 := golayDecode c.golayPoly (b.extractLsb' 48 24)
  let r2 := golayDecode c.golayPoly (b.extractLsb' 24 24)
  let r3 := golayDecode c.golayPoly (b.extractLsb' 0 24)
  (r0.1 ++ r1.1 ++ r2.1 ++ r3.1,
    BitVec.ofBool r3.2 ++ BitVec.ofBool r2.2 ++ BitVec.ofBool r1.2 ++ BitVec.ofBool r0.2)

/-- The result of `feedLich` (R379). -/
inductive FeedResult where
  | stored (n : Nat)
  | golayFail
  | badPos
deriving DecidableEq, Repr

/-- `feedLich` (R376, R379). -/
def feedLich (c : Codec) (buf : LsfBuffer) (b : Lich) : LsfBuffer × FeedResult :=
  let r := lichDecode c b
  let n := (fragmentPos r.1).toNat
  if r.2 ≠ 0b1111#4 then (buf, .golayFail)
  else if 5 < n then (buf, .badPos)
  else (setFragment buf r.1 n, .stored n)

/-! ### Commands -/

/-- R365: `n` > 512 is refused with `E_BAD_OP`, `RES0` and `RES1` unchanged. -/
def doCrc16 (n : BitVec 10) (s : State) : State :=
  if 512 < n.toNat then raise .badOp s
  else putRes0 ((crc16Of s.cfg.codec (scrInBytes n.toNat s)).setWidth 32) s

/-- R377. -/
def doLenc (s : State) : State := putScrOut (lichEncode s.cfg.codec (scrInSeq 48 s)) s

/-- R378. -/
def doLdec (s : State) : State :=
  let r := lichDecode s.cfg.codec (scrInSeq 96 s)
  putRes (r.2.setWidth 32) (if r.2 = 0b1111#4 then 1#32 else 0#32) (putScrOut r.1 s)

def execCrc16 (n : BitVec 10) (s : State) : Host.Outcome State Fault Refusal := .next (doCrc16 n s)
def execLenc (s : State) : Host.Outcome State Fault Refusal := .next (doLenc s)
def execLdec (s : State) : Host.Outcome State Fault Refusal := .next (doLdec s)

end Sys2Proof.Machine
end

