-- ==== Sys2Proof/Machine/RxSequencer.lean ====
section
/-! DEFINITION. Unit RXS: the receive state machine of 45_rx_sequencer.md, the meanings of the five
tagged-frame kinds, and the commands RX_INJECT and RX_RESET. -/

namespace Sys2Proof.Machine

/-! ### Frame fields (R403) -/

/-- `e.frame[0..1]`. -/
def syncWord (f : RfFrame) : BitVec 16 := f.extractLsb' 368 16

/-- `rxHeader(F)`: the LSF of a HEADER frame; its error count is not used (R404). -/
def rxHeader (c : Codec) (f : RfFrame) : Lsf := (decodeLinkSetup c (rxBody c f)).1

/-- `rxLich(F)`: body bits 0..95. -/
def rxLich (c : Codec) (f : RfFrame) : Lich := (rxBody c f).extractLsb' 272 96

/-- `rxData(F)`: the frame number, the payload and the error count of body bits 96..367, the first two in their
slots. -/
def rxData (c : Codec) (f : RfFrame) : BitVec 16 × Payload × Nat :=
  let r := decodeData c ((rxBody c f).extractLsb' 0 272)
  (r.1.extractLsb' 128 16, r.1.extractLsb' 0 128, r.2.1)

/-! ### Steps of the state machine (R405 to R422) -/

/-- AUDIO, AUDIO_DATA and DATA are the call states (R53, R406). -/
def inCall (st : RxState) : Bool :=
  match st with
  | .listening | .lateEntry => false
  | .audio | .audioData | .data => true

/-- `enterListening()` (R418): counters and `rej_latch` stay. -/
def enterListening (s : State) : State :=
  { s with rx := { s.rx with state := .listening, primary := .empty, running := .empty } }

/-- `callEnd(reason)` (R421). -/
def callEnd (reason : EndReason) (s : State) : State :=
  enterListening (emit (.callEnd reason s.rx.state s.rx.frames s.rx.bits s.rx.errs) s)

/-- The report of a LICH feed (R405): the frame's other processing goes on. -/
def feedReport (r : FeedResult) (s : State) : State :=
  match r with
  | .stored _ => s
  | .golayFail => raise .golay s
  | .badPos => raise .lichPos s

/-- `runningFeed(F)` (R417). -/
def runningFeed (f : RfFrame) (s : State) : State :=
  let r := feedLich s.cfg.codec s.rx.running (rxLich s.cfg.codec f)
  let s := feedReport r.2 { s with rx := { s.rx with running := r.1 } }
  match r.2 with
  | .stored _ =>
    if isValid s.cfg.codec s.rx.running then
      let s := emit (.auxLsf s.rx.running.lsf) s
      { s with rx := { s.rx with running := .empty } }
    else s
  | .golayFail | .badPos => s

/-- Whether the running LSF's feed fails (R417): E_GOLAY or E_LICH_POS. -/
def runningFeedFails (f : RfFrame) (s : State) : Bool :=
  match (feedLich s.cfg.codec s.rx.running (rxLich s.cfg.codec f)).2 with
  | .stored _ => false
  | .golayFail | .badPos => true

/-- The payload record pushed and the running LSF fed (R416). Where both raise an error, the configuration says in
which order: as R416 runs, or as 60_exceptions.md R632 lists them. DESIGN CHOICE (log 20). -/
def pushAndFeed (r : PayloadRecord) (f : RfFrame) (s : State) : State :=
  if s.cfg.errorOrder = .asListed ∧ runningFeedFails f s = true then pushPlq r (runningFeed f s)
  else runningFeed f (pushPlq r s)

/-- Whether a decoded frame number has its EOS flag set (R422): its top bit, by default bit 15. -/
def eosFlag (c : Codec) (fn : BitVec 16) : Bool := fn.getLsbD c.counterBits

/-- `callFrame(F, feedRunning)` (R416, R422). -/
def callFrame (f : RfFrame) (feedRunning : Bool) (s : State) : State :=
  let d := rxData s.cfg.codec f
  let s := { s with rx := { s.rx with
    frames := satAdd32 s.rx.frames 1
    bits := satAdd32 s.rx.bits 272
    errs := satAdd32 s.rx.errs d.2.2 } }
  let record : PayloadRecord := ⟨d.1, s.rx.state, BitVec.ofNat 16 d.2.2, d.2.1⟩
  let s := if feedRunning then pushAndFeed record f s else pushPlq record s
  if eosEnd s && eosFlag s.cfg.codec d.1 then callEnd .eos s else s

/-- `startCall(S, via, l)` (R412). -/
def startCall (st : RxState) (via : Via) (l : Lsf) (s : State) : State :=
  emit (.callStart st via l)
    { s with rx := { s.rx with
      state := st, frames := 0#32, bits := 0#32, errs := 0#32, rejLatch := false
      running := .empty } }

/-- `rejectLsf(c, l)` (R413): reported once until a LOST tag or a call start. -/
def rejectLsf (cause : RejectCause) (l : Lsf) (s : State) : State :=
  let s :=
    if s.rx.rejLatch then s
    else
      let s := raise (match cause with | .dataType => .rejType | .can => .rejCan) s
      let s := emit (.reject cause l) s
      { s with rx := { s.rx with rejLatch := true } }
  enterListening s

/-- `accept(l)` (R410). -/
def acceptLsf (l : Lsf) (s : State) : RejectCause ⊕ RxState :=
  if dataType l = 0#2 then .inl .dataType
  else if canfEn s && decide (lsfCan l ≠ canfVal s) then .inl .can
  else if dataType l = 1#2 then .inr .data
  else if dataType l = 2#2 then .inr .audio
  else .inr .audioData

/-- `tryStart(via, F)` (R411); `F` is present for a late entry, whose frame is decoded in the same step. -/
def tryStart (late : Option RfFrame) (s : State) : State :=
  let l := s.rx.primary.lsf
  match acceptLsf l s with
  | .inl cause => rejectLsf cause l s
  | .inr st =>
    match late with
    | none => startCall st .header l s
    | some f => callFrame f false (startCall st .lateEntry l s)

/-- HEADER outside a call (R414): a bad CRC leaves the primary buffer as it is. -/
def headerPath (f : RfFrame) (s : State) : State :=
  let l := rxHeader s.cfg.codec f
  if crcOk s.cfg.codec l then tryStart none { s with rx := { s.rx with primary := setWhole l } }
  else
    let s := raise .crc s
    { s with rx := { s.rx with state := .lateEntry } }

/-- DATA outside a call (R415). -/
def latePath (f : RfFrame) (s : State) : State :=
  let r := feedLich s.cfg.codec s.rx.primary (rxLich s.cfg.codec f)
  let s := feedReport r.2 { s with rx := { s.rx with primary := r.1 } }
  if isValid s.cfg.codec s.rx.primary then tryStart (some f) s
  else { s with rx := { s.rx with state := .lateEntry } }

/-- LOST (R419). -/
def lostPath (s : State) : State :=
  let s := if inCall s.rx.state then callEnd .lost s else enterListening s
  { s with rx := { s.rx with rejLatch := false } }

/-- EOT (R420). -/
def eotPath (s : State) : State :=
  if inCall s.rx.state then callEnd .eot s else enterListening s

/-- R401: `CHECK_SYNC` is set and the sync word is not `want`. -/
def syncFails (want : BitVec 16) (f : RfFrame) (s : State) : Bool :=
  checkSync s && decide (syncWord f ≠ want)

/-- R402. -/
def reportRssi (hasRssi : Bool) (rssi : BitVec 16) (s : State) : State :=
  if hasRssi then emit (.rssi rssi) s else s

/-! ### The tagged-frame kinds (R425) -/

/-- HEADER (R401, R402, R414, R423). -/
def doTagHeader (f : RfFrame) (hasRssi : Bool) (rssi : BitVec 16) (s : State) : State :=
  if syncFails s.cfg.codec.syncLsf f s then raise .sync s
  else
    let s := reportRssi hasRssi rssi s
    if inCall s.rx.state then s else headerPath f s

/-- DATA (R401, R402, R415, R416). -/
def doTagData (f : RfFrame) (hasRssi : Bool) (rssi : BitVec 16) (s : State) : State :=
  if syncFails s.cfg.codec.syncStream f s then raise .sync s
  else
    let s := reportRssi hasRssi rssi s
    if inCall s.rx.state then callFrame f true s else latePath f s

/-- DATA2 (R424): only its RSSI is reported. -/
def doTagData2 (hasRssi : Bool) (rssi : BitVec 16) (s : State) : State := reportRssi hasRssi rssi s

/-- LOST (R402, R419). -/
def doTagLost (hasRssi : Bool) (rssi : BitVec 16) (s : State) : State :=
  lostPath (reportRssi hasRssi rssi s)

/-- EOT (R402, R420). -/
def doTagEot (hasRssi : Bool) (rssi : BitVec 16) (s : State) : State :=
  eotPath (reportRssi hasRssi rssi s)

/-- `rxProcess(e)` (R425). A record whose kind is reserved never reaches the sequencer (R220). -/
def rxProcess (e : TaggedFrame) (s : State) : State :=
  if e.tag = 0#3 then doTagHeader e.frame e.hasRssi e.rssi s
  else if e.tag = 1#3 then doTagData e.frame e.hasRssi e.rssi s
  else if e.tag = 2#3 then doTagData2 e.hasRssi e.rssi s
  else if e.tag = 3#3 then doTagLost e.hasRssi e.rssi s
  else if e.tag = 4#3 then doTagEot e.hasRssi e.rssi s
  else s

/-! ### Commands -/

/-- R430: tags 5..7 are refused with `E_BAD_OP`, `RES0` unchanged; `st.rxq` is bypassed. -/
def doRxInject (tag : BitVec 3) (hasRssi : Bool) (s : State) : State :=
  if 4 < tag.toNat then raise .badOp s
  else
    let hasFrame := decide (tag ≠ 3#3)
    let frame : RfFrame := if hasFrame then scrInSeq 384 s else 0#384
    let rssi : BitVec 16 := if hasRssi then seqOfBytes 16 (memRead spScrIn 48 2 s) else 0#16
    let s := rxProcess ⟨tag, hasFrame, frame, hasRssi, rssi⟩ s
    putRes0 ((rxStateCode s.rx.state).setWidth 32) s

/-- R431: no event, and the queues stay. -/
def doRxReset (s : State) : State := { s with rx := .initial }

def execRxInject (tag : BitVec 3) (hasRssi : Bool) (s : State) : Host.Outcome State Fault Refusal :=
  .next (doRxInject tag hasRssi s)
def execRxReset (s : State) : Host.Outcome State Fault Refusal := .next (doRxReset s)

def execTagHeader (_hasFrame : Bool) (frame : RfFrame) (hasRssi : Bool) (rssi : BitVec 16) (s : State) :
    Host.Outcome State Fault Refusal := .next (doTagHeader frame hasRssi rssi s)
def execTagData (_hasFrame : Bool) (frame : RfFrame) (hasRssi : Bool) (rssi : BitVec 16) (s : State) :
    Host.Outcome State Fault Refusal := .next (doTagData frame hasRssi rssi s)
def execTagData2 (_hasFrame : Bool) (_frame : RfFrame) (hasRssi : Bool) (rssi : BitVec 16) (s : State) :
    Host.Outcome State Fault Refusal := .next (doTagData2 hasRssi rssi s)
def execTagLost (_hasFrame : Bool) (_frame : RfFrame) (hasRssi : Bool) (rssi : BitVec 16) (s : State) :
    Host.Outcome State Fault Refusal := .next (doTagLost hasRssi rssi s)
def execTagEot (_hasFrame : Bool) (_frame : RfFrame) (hasRssi : Bool) (rssi : BitVec 16) (s : State) :
    Host.Outcome State Fault Refusal := .next (doTagEot hasRssi rssi s)

end Sys2Proof.Machine
end

