-- ==== Sys2Proof/Machine/SerialEngine.lean ====
section
/-! DEFINITION. Unit SFE: the inbound frame handling, the open sequence and the link controller of
47_serial_engine.md, the meanings of the sixteen serial frame types, and the commands LINK_OPEN,
LINK_CLOSE and LINK_SET_MODE. The parser and the tick are in Tick.lean. -/

namespace Sys2Proof.Machine

/-! ### Closing (R532, R533) -/

/-- `closeLink()` (R533); the caller sets `link_state`. -/
def closeLink (s : State) : State :=
  { s with
    parser := { s.parser with pos := .start, off := 0#16, len := 0#16, type := 0#8 }
    link := { s.link with
      portOpen := false, pendValid := false, pendCmd := 0#8, tries := 0#8
      protoVersion := 0#8, space := 0#8 }
    timers := ⟨timerStop s.timers.poll, timerStop s.timers.wd, timerStop s.timers.pace,
      timerStop s.timers.backoff, timerStop s.timers.resp⟩
    txq := [] }

/-- Entering BACKOFF (R532, R544): the backoff timer starts. -/
def enterBackoff (s : State) : State :=
  { s with
    link := { s.link with state := .backoff }
    timers := { s.timers with backoff := timerStart } }

/-- `openFail(code)` (R532). -/
def openFail (code : ErrCode) (s : State) : State :=
  let s := closeLink (raise .openFail (raise code s))
  let s :=
    if s.link.autoReopen then enterBackoff s
    else { s with link := { s.link with state := .closed } }
  emit (.link s.link.state 0#8) s

/-! ### Sending (R528 to R531) -/

/-- The SET_CONFIG payload of the negotiated version (R528). -/
def setConfigPayload (s : State) : List Byte :=
  if s.link.protoVersion = 1#8 then configPayload spCfg1 s.cfg1Len s
  else configPayload spCfg2 s.cfg2Len s

/-- The SET_FREQ payload (R528). -/
def setFreqPayload (s : State) : List Byte := configPayload spFreq s.freqLen s

/-- A command becomes the outstanding one, first attempt, its response timer started (R528, R529, R562). -/
def awaitReply (cmd : Byte) (s : State) : State :=
  { s with
    link := { s.link with pendValid := true, pendCmd := cmd, tries := 1#8 }
    timers := { s.timers with resp := timerStart } }

/-- The outstanding command is over (R524, R525, R530): `pend_cmd` keeps its value. -/
def endReply (s : State) : State :=
  { s with
    link := { s.link with pendValid := false, tries := 0#8 }
    timers := { s.timers with resp := timerStop s.timers.resp } }

/-- `sendConfig()` (R528). -/
def sendConfig (s : State) : State :=
  let s := sendFrame s.cfg.serial.setConfig (setConfigPayload s) s
  awaitReply s.cfg.serial.setConfig { s with link := { s.link with state := .config } }

/-- `sendFreq()` (R528). -/
def sendFreq (s : State) : State :=
  let s := sendFrame s.cfg.serial.setFreq (setFreqPayload s) s
  awaitReply s.cfg.serial.setFreq { s with link := { s.link with state := .freq } }

/-- `portOpen(port_ok)` (R529). -/
def portOpenAttempt (portOk : Bool) (s : State) : State :=
  if portOk then
    let s := { s with
      link := { s.link with portOpen := true }
      parser := { s.parser with pos := .start, off := 0#16 } }
    awaitReply s.cfg.serial.getVersion (sendFrame s.cfg.serial.getVersion [] s)
  else openFail .port s

/-- `openSucceeded()` (R531). -/
def openSucceeded (s : State) : State :=
  let s := endReply { s with link := { s.link with state := .opened } }
  let s := { s with link := { s.link with linkErr := false, autoReopen := false, space := 0#8 } }
  let s := sendFrame s.cfg.serial.getStatus [] s
  let s := { s with timers := { s.timers with poll := timerStart, wd := timerStart } }
  emit (.link .opened s.link.protoVersion) s

/-- The outstanding command sent again (R530): GET_VERSION, SET_CONFIG or SET_FREQ. -/
def resend (s : State) : State :=
  if s.link.pendCmd = s.cfg.serial.getVersion then sendFrame s.cfg.serial.getVersion [] s
  else if s.link.pendCmd = s.cfg.serial.setConfig then sendFrame s.cfg.serial.setConfig (setConfigPayload s) s
  else if s.link.pendCmd = s.cfg.serial.setFreq then sendFrame s.cfg.serial.setFreq (setFreqPayload s) s
  else s

/-- Whether the link is in VERSION, CONFIG or FREQ. -/
def opening (st : LinkState) : Bool :=
  match st with
  | .version | .config | .freq => true
  | .closed | .opened | .backoff => false

/-- `respTimeout()` (R530). -/
def respTimeout (s : State) : State :=
  let n := if s.link.pendCmd = s.cfg.serial.getVersion then s.cfg.nVer else s.cfg.nAck
  if opening s.link.state then
    if s.link.tries.toNat < n then
      let s := resend s
      { s with
        link := { s.link with tries := s.link.tries + 1#8 }
        timers := { s.timers with resp := timerStart } }
    else openFail .noResp s
  else endReply (emit (.ackNak 0x00#8 s.cfg.serial.setMode 0x00#8) (raise .noResp s))

/-- `watchdogExpire()` (R544). -/
def watchdogExpire (s : State) : State :=
  let s := raise .watchdog s
  let s := { s with link := { s.link with linkErr := true, autoReopen := true } }
  emit (.link .backoff 0#8) (enterBackoff (closeLink s))

/-! ### Inbound frames (R521 to R527) -/

/-- `m17Frame(t, P)` (R522), for the tag its type selects. -/
def m17Frame (tag : BitVec 3) (payload : List Byte) (s : State) : State :=
  if s.link.state ≠ .opened then s
  else if payload.length ≠ 48 ∧ payload.length ≠ 50 then raise .serLen s
  else
    let hasRssi := decide (payload.length = 50)
    pushRxq ⟨tag, true, seqOfBytes 384 (payload.take 48), hasRssi,
      if hasRssi then seqOfBytes 16 (payload.drop 48) else 0#16⟩ s

/-- `versionReply(v)` (R523). -/
def versionReply (v : Byte) (s : State) : State :=
  if s.link.state ≠ .version ∨ s.link.pendValid = false then s
  else if s.cfg.versions.contains v then
    sendConfig { s with link := { s.link with protoVersion := v } }
  else raise .badVersion s

/-- Whether an ACK or NAK is awaited (R524, R525). -/
def awaitsAck (s : State) : Bool :=
  s.link.pendValid &&
    (decide (s.link.pendCmd = s.cfg.serial.setConfig) || decide (s.link.pendCmd = s.cfg.serial.setFreq) ||
      decide (s.link.pendCmd = s.cfg.serial.setMode))

/-- `ackReply(c)` (R524). -/
def ackReply (c : Byte) (s : State) : State :=
  if awaitsAck s then
    match s.link.state with
    | .config => sendFreq s
    | .freq => openSucceeded s
    | .opened => endReply (emit (.ackNak 0x70#8 c 0#8) s)
    | .closed | .version | .backoff => s
  else s

/-- `nakReply(c, r)` (R525). -/
def nakReply (c r : Byte) (s : State) : State :=
  if awaitsAck s then
    let s := emit (.ackNak 0x7F#8 c r) { s with link := { s.link with lastNak := r } }
    match s.link.state with
    | .config | .freq => openFail .nak s
    | .opened => endReply (raise .nak s)
    | .closed | .version | .backoff => s
  else s

/-- `STATUS_LAYOUT(proto_version)` (R526). -/
def statusLayout (s : State) : StatusLayout :=
  if s.link.protoVersion = 1#8 then s.cfg.statusLayout1 else s.cfg.statusLayout2

/-- `statusReply(P)` (R526). -/
def statusReply (payload : List Byte) (s : State) : State :=
  if s.link.state ≠ .opened then s
  else
    let l := statusLayout s
    if payload.length < l.minLen then raise .serLen s
    else
      { s with
        link := { s.link with
          modemMode := payload.getD l.modeOff 0#8
          modemFlags := payload.getD l.flagsOff 0#8
          space := payload.getD l.spaceOff 0#8 }
        timers := { s.timers with wd := timerStop s.timers.wd } }

/-- A GET_VERSION reply frame (R521). -/
def doSerGetVersion (payload : List Byte) (s : State) : State :=
  match payload with
  | [] => raise .serLen s
  | v :: _ => versionReply v s

/-- A status reply frame (R521, R526). -/
def doSerGetStatus (payload : List Byte) (s : State) : State := statusReply payload s

/-- A type that only the block sends, received (R517). -/
def serUnexpected (s : State) : State := raise .serUnknown s

/-- An inbound SET_CONFIG frame (R517). -/
def doSerSetConfig (_payload : List Byte) (s : State) : State := serUnexpected s

/-- An inbound SET_MODE frame (R517). -/
def doSerSetMode (_payload : List Byte) (s : State) : State := serUnexpected s

/-- An inbound SET_FREQ frame (R517). -/
def doSerSetFreq (_payload : List Byte) (s : State) : State := serUnexpected s

/-- M17_LINK_SETUP: tagged HEADER (R522). -/
def doSerM17LinkSetup (payload : List Byte) (s : State) : State := m17Frame 0#3 payload s

/-- M17_STREAM: tagged DATA (R522). -/
def doSerM17Stream (payload : List Byte) (s : State) : State := m17Frame 1#3 payload s

/-- M17_PACKET: tagged DATA2 (R522). -/
def doSerM17Packet (payload : List Byte) (s : State) : State := m17Frame 2#3 payload s

/-- M17_LOST (R521): its payload is ignored. -/
def doSerM17Lost (_payload : List Byte) (s : State) : State :=
  if s.link.state = .opened then pushRxq ⟨3#3, false, 0#384, false, 0#16⟩ s else s

/-- ACK (R521, R524). -/
def doSerAck (payload : List Byte) (s : State) : State :=
  match payload with
  | [] => raise .serLen s
  | c :: _ => ackReply c s

/-- NAK (R521, R525). -/
def doSerNak (payload : List Byte) (s : State) : State :=
  match payload with
  | c :: r :: _ => nakReply c r s
  | _ => raise .serLen s

/-- A debug frame (R527): reported with type and length, in every link state. -/
def debugFrame (type : Byte) (payload : List Byte) (s : State) : State :=
  emit (.debug type (BitVec.ofNat 8 (min payload.length 255))) s

/-- DEBUG1 (R527). -/
def doSerDebug1 (payload : List Byte) (s : State) : State := debugFrame s.cfg.serial.debug1 payload s

/-- DEBUG2 (R527). -/
def doSerDebug2 (payload : List Byte) (s : State) : State := debugFrame s.cfg.serial.debug2 payload s

/-- DEBUG3 (R527). -/
def doSerDebug3 (payload : List Byte) (s : State) : State := debugFrame s.cfg.serial.debug3 payload s

/-- DEBUG4 (R527). -/
def doSerDebug4 (payload : List Byte) (s : State) : State := debugFrame s.cfg.serial.debug4 payload s

/-- DEBUG5 (R527). -/
def doSerDebug5 (payload : List Byte) (s : State) : State := debugFrame s.cfg.serial.debug5 payload s

/-- `handleFrame(t, P)` (R521), through the decoder of the frame's type; a type R213 does not list raises
`E_SER_UNKNOWN` (R517). -/
def handleFrame (type : Byte) (payload : List Byte) (s : State) : State :=
  match decodeSerBody s.cfg.serial type payload with
  | .error _ => raise .serUnknown s
  | .ok i =>
    match i with
    | .serGetVersion p => doSerGetVersion p s
    | .serGetStatus p => doSerGetStatus p s
    | .serSetConfig p => doSerSetConfig p s
    | .serSetMode p => doSerSetMode p s
    | .serSetFreq p => doSerSetFreq p s
    | .serM17LinkSetup p => doSerM17LinkSetup p s
    | .serM17Stream p => doSerM17Stream p s
    | .serM17Packet p => doSerM17Packet p s
    | .serM17Lost p => doSerM17Lost p s
    | .serAck p => doSerAck p s
    | .serNak p => doSerNak p s
    | .serDebug1 p => doSerDebug1 p s
    | .serDebug2 p => doSerDebug2 p s
    | .serDebug3 p => doSerDebug3 p s
    | .serDebug4 p => doSerDebug4 p s
    | .serDebug5 p => doSerDebug5 p s
    -- the serial table yields no instruction of another format
    | .rd _ | .wr _ _ | .brd _ _ | .bwr _ _ _ | .nop | .genc _ | .gdec _ | .cencLsf | .cdecLsf
    | .cdecLsfSoft | .cencStr | .cdecStr | .cdecStrSoft | .ilv | .dilv | .scr | .crc16 _ | .lenc
    | .ldec | .rxInject _ _ | .rxReset | .txStart | .txPayload _ | .txEnd | .txNextLsf | .linkOpen
    | .linkClose | .linkSetMode _ | .evPop | .plPop | .tagHeader _ _ _ _ | .tagData _ _ _ _
    | .tagData2 _ _ _ _ | .tagLost _ _ _ _ | .tagEot _ _ _ _ => raise .serUnknown s

/-! ### Commands (R560 to R562) -/

/-- R560: from BACKOFF the wait is cut short and `auto_reopen` stays. -/
def doLinkOpen (s : State) : State :=
  match s.link.state with
  | .closed =>
    { s with
      link := { s.link with autoReopen := false, state := .version }
      timers := { s.timers with backoff := timerStop s.timers.backoff } }
  | .backoff =>
    { s with
      link := { s.link with state := .version }
      timers := { s.timers with backoff := timerStop s.timers.backoff } }
  | .version | .config | .freq | .opened => raise .linkState s

/-- R561. -/
def doLinkClose (s : State) : State :=
  let s := closeLink s
  emit (.link .closed 0#8) { s with link := { s.link with state := .closed, autoReopen := false } }

/-- R562. -/
def doLinkSetMode (mode : Byte) (s : State) : State :=
  if s.link.state ≠ .opened ∨ s.link.pendValid = true then raise .linkState s
  else awaitReply s.cfg.serial.setMode (sendFrame s.cfg.serial.setMode [mode] s)

def execLinkOpen (s : State) : Host.Outcome State Fault Refusal := .next (doLinkOpen s)
def execLinkClose (s : State) : Host.Outcome State Fault Refusal := .next (doLinkClose s)
def execLinkSetMode (mode : Byte) (s : State) : Host.Outcome State Fault Refusal :=
  .next (doLinkSetMode mode s)

/-! ### The serial frame types -/

def execSerGetVersion (p : List Byte) (s : State) : Host.Outcome State Fault Refusal :=
  .next (doSerGetVersion p s)
def execSerGetStatus (p : List Byte) (s : State) : Host.Outcome State Fault Refusal :=
  .next (doSerGetStatus p s)
def execSerSetConfig (p : List Byte) (s : State) : Host.Outcome State Fault Refusal :=
  .next (doSerSetConfig p s)
def execSerSetMode (p : List Byte) (s : State) : Host.Outcome State Fault Refusal :=
  .next (doSerSetMode p s)
def execSerSetFreq (p : List Byte) (s : State) : Host.Outcome State Fault Refusal :=
  .next (doSerSetFreq p s)
def execSerM17LinkSetup (p : List Byte) (s : State) : Host.Outcome State Fault Refusal :=
  .next (doSerM17LinkSetup p s)
def execSerM17Stream (p : List Byte) (s : State) : Host.Outcome State Fault Refusal :=
  .next (doSerM17Stream p s)
def execSerM17Packet (p : List Byte) (s : State) : Host.Outcome State Fault Refusal :=
  .next (doSerM17Packet p s)
def execSerM17Lost (p : List Byte) (s : State) : Host.Outcome State Fault Refusal :=
  .next (doSerM17Lost p s)
def execSerAck (p : List Byte) (s : State) : Host.Outcome State Fault Refusal :=
  .next (doSerAck p s)
def execSerNak (p : List Byte) (s : State) : Host.Outcome State Fault Refusal :=
  .next (doSerNak p s)
def execSerDebug1 (p : List Byte) (s : State) : Host.Outcome State Fault Refusal :=
  .next (doSerDebug1 p s)
def execSerDebug2 (p : List Byte) (s : State) : Host.Outcome State Fault Refusal :=
  .next (doSerDebug2 p s)
def execSerDebug3 (p : List Byte) (s : State) : Host.Outcome State Fault Refusal :=
  .next (doSerDebug3 p s)
def execSerDebug4 (p : List Byte) (s : State) : Host.Outcome State Fault Refusal :=
  .next (doSerDebug4 p s)
def execSerDebug5 (p : List Byte) (s : State) : Host.Outcome State Fault Refusal :=
  .next (doSerDebug5 p s)

end Sys2Proof.Machine
end

