-- ==== Sys2Proof/Machine/TxBuilder.lean ====
section
/-! DEFINITION. Unit TXB: the transmit state machine of 46_tx_builder.md and the commands TX_START,
TX_PAYLOAD, TX_END and TX_NEXT_LSF. -/

namespace Sys2Proof.Machine

/-! ### Frames (R462, R463, R474) -/

/-- `txHeader(l)` (30_encoding.md R223). -/
def txHeader (c : Codec) (l : Lsf) : RfFrame := c.syncLsf ++ txBody c (encodeLinkSetup c l)

/-- The 368 bits of a stream body before interleaving (30_encoding.md R224). -/
def streamBody (c : Codec) (l : Lsf) (n : BitVec 3) (fn : BitVec 16) (p : Payload) : Body :=
  lichEncode c (getFragment l n) ++ encodeData c (fn ++ p)

/-- `txStream(l, n, fn, p)`. -/
def txStream (c : Codec) (l : Lsf) (n : BitVec 3) (fn : BitVec 16) (p : Payload) : RfFrame :=
  c.syncStream ++ txBody c (streamBody c l n fn p)

/-- `txEot()` (30_encoding.md R225): the EOT sync word 24 times. -/
def txEot (c : Codec) : RfFrame := BitVec.replicate 24 c.syncEot

/-! ### Commands -/

/-- R461. -/
def doTxStart (s : State) : State :=
  if s.tx.state ≠ .none then raise .txState s
  else
    let l := lsfSeal s.cfg.codec (seqOfBytes 240 (memRead spTxLsf 0 30 s))
    { s with tx := { s.tx with
      hdrLsf := l, lichLsf := l, lichPos := 0#3, fn := 0#15, frames := 0#32
      nextPending := false, state := .header } }

/-- The HEADER frame of the first payload (R464): queued before the first STREAM frame. -/
def headerFirst (s : State) : State :=
  if s.tx.state = .header then
    let s := pushTxq ⟨0#3, txHeader s.cfg.codec s.tx.hdrLsf⟩ s
    { s with tx := { s.tx with state := .audio } }
  else s

/-- `latchLich()`, called where the LICH position is 0 (R464, R468). -/
def latchLich (s : State) : State :=
  if s.tx.lichPos = 0#3 then
    if s.tx.nextPending then
      let l := lsfSeal s.cfg.codec (seqOfBytes 240 (memRead spNextLsf 0 30 s))
      { s with tx := { s.tx with lichLsf := l, nextPending := false } }
    else { s with tx := { s.tx with lichLsf := s.tx.hdrLsf } }
  else s

/-- The frame number a payload is sent with (R464, R466): the EOS flag above the counter, by default of 15 bits. -/
def payloadFn (eos : Bool) (s : State) : BitVec 16 :=
  let count := 2 ^ s.cfg.codec.counterBits
  BitVec.ofNat 16 (eos.toNat * count + s.tx.fn.toNat % count)

/-- The counter of the next frame number (R464, R466). -/
def nextFn (c : Codec) (fn : BitVec 15) : BitVec 15 := BitVec.ofNat 15 ((fn.toNat + 1) % 2 ^ c.counterBits)

/-- The next LICH position (R467). -/
def nextLichPos (n : BitVec 3) : BitVec 3 := BitVec.ofNat 3 ((n.toNat + 1) % 6)

/-- R464, R469: the builder advances whether or not the queue took the frames. -/
def doTxPayload (eos : Bool) (s : State) : State :=
  if s.tx.state = .none then raise .txState s
  else
    let s := latchLich (headerFirst s)
    let fn := payloadFn eos s
    let frame := txStream s.cfg.codec s.tx.lichLsf s.tx.lichPos fn (seqOfBytes 128 (memRead spScrIn 0 16 s))
    let s := putRes0 (fn.setWidth 32) (pushTxq ⟨1#3, frame⟩ s)
    { s with tx := { s.tx with
      lichPos := nextLichPos s.tx.lichPos
      fn := nextFn s.cfg.codec s.tx.fn
      frames := satAdd32 s.tx.frames 1 } }

/-- R473. `END` stands only while the EOT frame is queued (R58). -/
def doTxEnd (s : State) : State :=
  match s.tx.state with
  | .none => raise .txState s
  | .header => { s with tx := { s.tx with state := .none } }
  | .audio | .ending =>
    let s := { s with tx := { s.tx with state := .ending } }
    let s := pushTxq ⟨4#3, txEot s.cfg.codec⟩ s
    { s with tx := { s.tx with state := .none } }

/-- R475. -/
def doTxNextLsf (s : State) : State := { s with tx := { s.tx with nextPending := true } }

def execTxStart (s : State) : Host.Outcome State Fault Refusal := .next (doTxStart s)
def execTxPayload (eos : Bool) (s : State) : Host.Outcome State Fault Refusal := .next (doTxPayload eos s)
def execTxEnd (s : State) : Host.Outcome State Fault Refusal := .next (doTxEnd s)
def execTxNextLsf (s : State) : Host.Outcome State Fault Refusal := .next (doTxNextLsf s)

end Sys2Proof.Machine
end

