-- ==== Sys2Proof/Machine/HostPort.lean ====
section
/-! DEFINITION. The host port of 48_host_port.md: the commands NOP, EV_POP and PL_POP, the execution of a
command word, and the four host transactions RD, WR, BRD and BWR. -/

namespace Sys2Proof.Machine

/-- R586. -/
def doNop (s : State) : State := s

/-- R604: an empty FIFO answers 0 and leaves `EV_BUF` as it is. -/
def doEvPop (s : State) : State :=
  match s.evq with
  | [] => putRes 0#32 0#32 s
  | ev :: rest =>
    let r := eventBytes ev
    let s := memWrite spEvBuf 0 (r ++ List.replicate (64 - r.length) 0#8) { s with evq := rest }
    putRes ((r.getD 0 0#8 ++ r.getD 1 0#8).setWidth 32) (BitVec.ofNat 32 rest.length) s

/-- R605: an empty FIFO answers 0 and leaves `PL_BUF` as it is. -/
def doPlPop (s : State) : State :=
  match s.plq with
  | [] => putRes 0#32 0#32 s
  | r :: rest =>
    let s := memWrite spPlBuf 0 (recordBytes r ++ List.replicate 11 0#8) { s with plq := rest }
    putRes 21#32 (BitVec.ofNat 32 rest.length) s

def execNop (s : State) : Host.Outcome State Fault Refusal := .next (doNop s)
def execEvPop (s : State) : Host.Outcome State Fault Refusal := .next (doEvPop s)
def execPlPop (s : State) : Host.Outcome State Fault Refusal := .next (doPlPop s)

/-- `execute(word)` (R587): a reserved code raises `E_BAD_OP` and does nothing else (R185). -/
def execute (word : Word) (s : State) : State :=
  match decodeCmd word with
  | .error _ => raise .badOp s
  | .ok i =>
    match i with
    | .nop => doNop s
    | .genc d => doGenc d s
    | .gdec w => doGdec w s
    | .cencLsf => doCencLsf s
    | .cdecLsf => doCdecLsf s
    | .cdecLsfSoft => doCdecLsfSoft s
    | .cencStr => doCencStr s
    | .cdecStr => doCdecStr s
    | .cdecStrSoft => doCdecStrSoft s
    | .ilv => doIlv s
    | .dilv => doDilv s
    | .scr => doScr s
    | .crc16 n => doCrc16 n s
    | .lenc => doLenc s
    | .ldec => doLdec s
    | .rxInject tag hasRssi => doRxInject tag hasRssi s
    | .rxReset => doRxReset s
    | .txStart => doTxStart s
    | .txPayload eos => doTxPayload eos s
    | .txEnd => doTxEnd s
    | .txNextLsf => doTxNextLsf s
    | .linkOpen => doLinkOpen s
    | .linkClose => doLinkClose s
    | .linkSetMode mode => doLinkSetMode mode s
    | .evPop => doEvPop s
    | .plPop => doPlPop s
    -- the command table yields no instruction of another format
    | .rd _ | .wr _ _ | .brd _ _ | .bwr _ _ _ | .serGetVersion _ | .serGetStatus _
    | .serSetConfig _ | .serSetMode _ | .serSetFreq _ | .serM17LinkSetup _ | .serM17Stream _
    | .serM17Packet _ | .serM17Lost _ | .serAck _ | .serNak _ | .serDebug1 _ | .serDebug2 _
    | .serDebug3 _ | .serDebug4 _ | .serDebug5 _ | .tagHeader _ _ _ _ | .tagData _ _ _ _
    | .tagData2 _ _ _ _ | .tagLost _ _ _ _ | .tagEot _ _ _ _ => raise .badOp s

/-- R81, R582: a length register stores at most 256. -/
def clampLen (data : Word) : BitVec 9 := BitVec.ofNat 9 (min data.toNat 256)

/-- `WR(sel, data)` (R582). -/
def writeReg (sel : Byte) (data : Word) (s : State) : State :=
  match sel.toNat with
  | 0x01 => { s with ctrl := data &&& ctrlMask }
  | 0x02 => clearErr data s
  | 0x0C => { s with cfg1Len := clampLen data }
  | 0x0D => { s with cfg2Len := clampLen data }
  | 0x0E => { s with freqLen := clampLen data }
  | 0x10 => execute data s
  | _ => raise .badAddr s

/-- The value a host transaction returns (R580). -/
def answer (v : Word) (s : State) : State := { s with portOut := v }

/-- R581. -/
def doRd (sel : Byte) (s : State) : State :=
  match readReg sel s with
  | some v => answer v s
  | none => answer 0#32 (raise .badAddr s)

/-- R582; a write returns 0 (R580). -/
def doWr (sel : Byte) (data : Word) (s : State) : State := answer 0#32 (writeReg sel data s)

/-- R583. -/
def doBrd (space : Byte) (off : BitVec 16) (s : State) : State :=
  let r := hostBufRead space off.toNat s
  answer (r.1.setWidth 32) r.2

/-- R584. -/
def doBwr (space : Byte) (off : BitVec 16) (data : Byte) (s : State) : State :=
  answer 0#32 (hostBufWrite space off.toNat data s)

def execRd (sel : Byte) (s : State) : Host.Outcome State Fault Refusal := .next (doRd sel s)
def execWr (sel : Byte) (data : Word) (s : State) : Host.Outcome State Fault Refusal :=
  .next (doWr sel data s)
def execBrd (space : Byte) (off : BitVec 16) (s : State) : Host.Outcome State Fault Refusal :=
  .next (doBrd space off s)
def execBwr (space : Byte) (off : BitVec 16) (data : Byte) (s : State) :
    Host.Outcome State Fault Refusal := .next (doBwr space off data s)

end Sys2Proof.Machine
end

