-- ==== Sys2Proof/Machine/Tick.lean ====
section
/-! DEFINITION. The serial parser and the tick of 47_serial_engine.md (R500, R510 to R519, R541, R547). -/

namespace Sys2Proof.Machine

/-! ### Parser (R510 to R519) -/

/-- "Stored" (R515): a byte past `RXBUF_CAP` is counted and lost. -/
def storeByte (b : Byte) (s : State) : State :=
  let buf :=
    if s.parser.off.toNat < s.cfg.rxbufCap then s.parser.buf.set s.parser.off.toNat b
    else s.parser.buf
  { s with parser := { s.parser with buf := buf, off := s.parser.off + 1#16 } }

/-- `ps <- p`. -/
def parserAt (p : ParserPos) (s : State) : State := { s with parser := { s.parser with pos := p } }

/-- The payload of the complete frame, `pbuf[hdr .. plen−1]` (R515). -/
def framePayload (c : SerialCodes) (p : Parser) : List Byte :=
  let hdr := if p.buf.getD 1 0#8 = c.lenEscape then 4 else 3
  (p.buf.take p.len.toNat).drop hdr

/-- `complete()` (R515). -/
def completeFrame (s : State) : State :=
  let s := parserAt .start s
  if s.cfg.rxbufCap < s.parser.len.toNat then raise .serLen s
  else handleFrame s.parser.type (framePayload s.cfg.serial s.parser) s

/-- Whether the frame is complete, or the DATA bytes come next (R514, R515). -/
def completeOr (p : ParserPos) (s : State) : State :=
  if s.parser.off = s.parser.len then completeFrame s else parserAt p s

/-- `parseByte(b)` (R519). -/
def parseByte (b : Byte) (s : State) : State :=
  match s.parser.pos with
  | .start =>
    if b = s.cfg.serial.start then
      parserAt .length1 (storeByte b { s with parser := { s.parser with off := 0#16 } })
    else s
  | .length1 =>
    let s := storeByte b s
    if b = s.cfg.serial.lenEscape then parserAt .length2 s
    else if b.toNat < 3 then parserAt .start (raise .serFraming s)
    else parserAt .type { s with parser := { s.parser with len := b.setWidth 16 } }
  | .length2 =>
    let s := storeByte b s
    parserAt .type
      { s with parser := { s.parser with len := BitVec.ofNat 16 (b.toNat + s.cfg.serial.len2Bias) } }
  | .type =>
    let s := storeByte b s
    completeOr .data { s with parser := { s.parser with type := b } }
  | .data => completeOr .data (storeByte b s)

/-! ### The phases of a tick (R500) -/

/-- Phase 1: every timer advances (R66). -/
def advanceTimers (dt : Nat) (s : State) : State :=
  { s with timers :=
      ⟨timerAdvance dt s.timers.poll, timerAdvance dt s.timers.wd, timerAdvance dt s.timers.pace,
        timerAdvance dt s.timers.backoff, timerAdvance dt s.timers.resp⟩ }

/-- Phase 2: the bytes are parsed in order if the port is open as the phase begins (R500, R501, log 7). -/
def parseBytes (bytes : List Byte) (s : State) : State :=
  if s.link.portOpen then bytes.foldl (fun s b => parseByte b s) s else s

/-- Phase 3, for the entries still queued: each is popped and processed completely before the next
(R400). -/
def rxLoop : List TaggedFrame → State → State
  | [], s => s
  | e :: rest, s => rxLoop rest (rxProcess e { s with rxq := rest })

/-- Phase 3 (R500). -/
def rxDrain (s : State) : State := rxLoop s.rxq s

/-- The serial type of a queued frame (R541, R542). -/
def outboundType (c : Params) (tag : BitVec 3) : Byte :=
  if tag = 0#3 then c.serial.linkSetup else if tag = 1#3 then c.serial.stream else c.eotSerType

/-- Phase 4, `txDrain()` (R541): at most one frame a tick, under credit and pacing. -/
def txDrain (s : State) : State :=
  if s.link.state = .opened ∧ 1 < s.link.space.toNat ∧
      (s.timers.pace.run = false ∨ timerExpired s.timers.pace s.cfg.tPace = true) then
    match s.txq with
    | [] => s
    | e :: rest =>
      let s := sendFrame (outboundType s.cfg e.tag) (bytesOfSeq e.frame) { s with txq := rest }
      { s with
        link := { s.link with space := s.link.space - 1#8 }
        timers := { s.timers with pace := timerStart } }
  else s

/-- Action a (R545, R547). -/
def backoffAction (s : State) : State :=
  if timerExpired s.timers.backoff s.cfg.tBackoff then
    { s with
      timers := { s.timers with backoff := timerStop s.timers.backoff }
      link := { s.link with state := .version } }
  else s

/-- Action b (R529, R547). -/
def portAction (portOk : Bool) (s : State) : State :=
  if s.link.state = .version ∧ s.link.portOpen = false then portOpenAttempt portOk s else s

/-- Action c (R530, R547). -/
def respAction (s : State) : State :=
  if timerExpired s.timers.resp s.cfg.tResp then respTimeout s else s

/-- Action d (R544, R547). -/
def watchdogAction (s : State) : State :=
  if timerExpired s.timers.wd s.cfg.tWd then watchdogExpire s else s

/-- Action e (R543, R547). -/
def pollAction (s : State) : State :=
  if timerExpired s.timers.poll s.cfg.tPoll then
    let s := sendFrame s.cfg.serial.getStatus [] s
    { s with timers := { s.timers with
      poll := timerStart
      wd := if s.timers.wd.run then s.timers.wd else timerStart } }
  else s

/-- Phase 5, `timerActions(port_ok)` (R547). -/
def timerActions (portOk : Bool) (s : State) : State :=
  pollAction (watchdogAction (respAction (portAction portOk (backoffAction s))))

/-- `tick(dt, bytes, port_ok)` (R500). -/
def tick (dt : Nat) (bytes : List Byte) (portOk : Bool) (s : State) : State :=
  timerActions portOk (txDrain (rxDrain (parseBytes bytes (advanceTimers dt s))))

/-! ### Environment steps (00_scope.md R10) -/

/-- The next environment step, taken off the pending list, with `serialOut` made ready for the bytes this
step writes (R69, log 1, log 5). -/
def fetch (s : State) : Option (EnvStep × State) :=
  match s.inputs with
  | [] => none
  | e :: rest => some (e, { s with inputs := rest, serialOut := [] })

/-- `reset()` (R680): every field at its reset value; the configuration, and the environment steps still
to come, are not the block's to reset (log 12). -/
def resetStep (s : State) : State := { State.resetWith s.cfg with inputs := s.inputs }

/-- An inbound serial frame of table bits laid where the next tick parses it (log 11). -/
def withSerialInput (bytes : List Byte) (s : State) : State :=
  { s with
    link := { s.link with portOpen := true }
    parser := { s.parser with pos := .start }
    inputs := [.tick 0 bytes false] }

/-- An opcode-table word laid where `step` runs it next (log 11). -/
def placeCode (c : Code) (s : State) : State :=
  match c with
  | .port w => { s with inputs := [.port w] }
  | .cmd w => { s with inputs := [.port (cmdPort w)] }
  | .ser bytes => withSerialInput bytes s
  | .tag e => { s with rxq := [e], inputs := [.tick 0 [] false] }

end Sys2Proof.Machine
end

