-- ==== Sys2Proof/Machine/Dispatch.lean ====
section
/-! DEFINITION. One arm per instruction, each one call of its meaning. -/

namespace Sys2Proof.Machine

def exec (i : Instr) (s : State) : Host.Outcome State Fault Refusal :=
  match i with
  | .rd sel => Sys2Proof.Machine.execRd sel s
  | .wr sel data => Sys2Proof.Machine.execWr sel data s
  | .brd sel off => Sys2Proof.Machine.execBrd sel off s
  | .bwr sel off data => Sys2Proof.Machine.execBwr sel off data s
  | .nop => Sys2Proof.Machine.execNop s
  | .genc d => Sys2Proof.Machine.execGenc d s
  | .gdec w => Sys2Proof.Machine.execGdec w s
  | .cencLsf => Sys2Proof.Machine.execCencLsf s
  | .cdecLsf => Sys2Proof.Machine.execCdecLsf s
  | .cdecLsfSoft => Sys2Proof.Machine.execCdecLsfSoft s
  | .cencStr => Sys2Proof.Machine.execCencStr s
  | .cdecStr => Sys2Proof.Machine.execCdecStr s
  | .cdecStrSoft => Sys2Proof.Machine.execCdecStrSoft s
  | .ilv => Sys2Proof.Machine.execIlv s
  | .dilv => Sys2Proof.Machine.execDilv s
  | .scr => Sys2Proof.Machine.execScr s
  | .crc16 n => Sys2Proof.Machine.execCrc16 n s
  | .lenc => Sys2Proof.Machine.execLenc s
  | .ldec => Sys2Proof.Machine.execLdec s
  | .rxInject tag hasRssi => Sys2Proof.Machine.execRxInject tag hasRssi s
  | .rxReset => Sys2Proof.Machine.execRxReset s
  | .txStart => Sys2Proof.Machine.execTxStart s
  | .txPayload eos => Sys2Proof.Machine.execTxPayload eos s
  | .txEnd => Sys2Proof.Machine.execTxEnd s
  | .txNextLsf => Sys2Proof.Machine.execTxNextLsf s
  | .linkOpen => Sys2Proof.Machine.execLinkOpen s
  | .linkClose => Sys2Proof.Machine.execLinkClose s
  | .linkSetMode mode => Sys2Proof.Machine.execLinkSetMode mode s
  | .evPop => Sys2Proof.Machine.execEvPop s
  | .plPop => Sys2Proof.Machine.execPlPop s
  | .serGetVersion payload => Sys2Proof.Machine.execSerGetVersion payload s
  | .serGetStatus payload => Sys2Proof.Machine.execSerGetStatus payload s
  | .serSetConfig payload => Sys2Proof.Machine.execSerSetConfig payload s
  | .serSetMode payload => Sys2Proof.Machine.execSerSetMode payload s
  | .serSetFreq payload => Sys2Proof.Machine.execSerSetFreq payload s
  | .serM17LinkSetup payload => Sys2Proof.Machine.execSerM17LinkSetup payload s
  | .serM17Stream payload => Sys2Proof.Machine.execSerM17Stream payload s
  | .serM17Packet payload => Sys2Proof.Machine.execSerM17Packet payload s
  | .serM17Lost payload => Sys2Proof.Machine.execSerM17Lost payload s
  | .serAck payload => Sys2Proof.Machine.execSerAck payload s
  | .serNak payload => Sys2Proof.Machine.execSerNak payload s
  | .serDebug1 payload => Sys2Proof.Machine.execSerDebug1 payload s
  | .serDebug2 payload => Sys2Proof.Machine.execSerDebug2 payload s
  | .serDebug3 payload => Sys2Proof.Machine.execSerDebug3 payload s
  | .serDebug4 payload => Sys2Proof.Machine.execSerDebug4 payload s
  | .serDebug5 payload => Sys2Proof.Machine.execSerDebug5 payload s
  | .tagHeader hasFrame frame hasRssi rssi => Sys2Proof.Machine.execTagHeader hasFrame frame hasRssi rssi s
  | .tagData hasFrame frame hasRssi rssi => Sys2Proof.Machine.execTagData hasFrame frame hasRssi rssi s
  | .tagData2 hasFrame frame hasRssi rssi => Sys2Proof.Machine.execTagData2 hasFrame frame hasRssi rssi s
  | .tagLost hasFrame frame hasRssi rssi => Sys2Proof.Machine.execTagLost hasFrame frame hasRssi rssi s
  | .tagEot hasFrame frame hasRssi rssi => Sys2Proof.Machine.execTagEot hasFrame frame hasRssi rssi s

end Sys2Proof.Machine
end

