-- ==== Sys2Proof/Machine/Step.lean ====
section
/-! DEFINITION. One step of the machine: the next environment step, a host transaction, a tick or a reset
(00_scope.md R10). With none pending the block does nothing (60_exceptions.md R665). -/

namespace Sys2Proof.Machine

def step (s : State) : Host.Outcome State Fault Refusal :=
  match fetch s with
  | none => .next s
  | some (.port w, s) => exec (decodePort w) s
  | some (.tick dt bytes portOk, s) => .next (tick dt bytes portOk s)
  | some (.reset, s) => .next (resetStep s)

/-- `s` with an opcode-table word laid where the next step runs it (log 11). -/
def State.withFetchWord (s : State) (nbits w : Nat) : State :=
  match tableCode nbits w with
  | some c => placeCode c s
  | none => s

end Sys2Proof.Machine
end

