-- ==== Sys2Proof/Safety.lean ====
section
/-! DEFINITION. The terms the statements use: what a step may leave changed in memory, the invariants of the
machine, and the spec's own wording of a few results (polynomial products, the trellis code as a shift
register) beside which the model's functions are held. -/

namespace Sys2Proof.Machine

/-! ### Frames -/

/-- Memory after `t` is memory before in `s`, but for `bytes` stored at rising addresses from `addr`. -/
def storesBytes (s t : State) (addr : Nat) (bytes : List Byte) : Prop :=
  ∀ a, Memory.read t.mem a =
    if addr ≤ a ∧ a < addr + bytes.length then bytes.getD (a - addr) 0#8 else Memory.read s.mem a

/-- The state a rejected LSF leaves (45_rx_sequencer.md R413, R418): reported once until the latch clears, both
buffers emptied, LISTENING. -/
def rejectedState (cause : RejectCause) (code : ErrCode) (l : Lsf) (s : State) : State :=
  let cleared : RxUnit := { s.rx with state := .listening, primary := .empty, running := .empty }
  if s.rx.rejLatch then { s with rx := cleared }
  else { emit (.reject cause l) (raise code s) with rx := { cleared with rejLatch := true } }

/-! ### Instructions in sequence -/

/-- Instructions run one after another, until one does not answer a next state. -/
def execAll : List Instr → State → Host.Outcome State Fault Refusal
  | [], s => .next s
  | i :: rest, s =>
    match exec i s with
    | .next t => execAll rest t
    | .fault r => .fault r
    | .refused r => .refused r

/-! ### Invariants -/

/-- Reserved bits of `CTRL` and `ERR` read 0 (10_state.md R72, R73), and a length is at most 256 (R81). -/
def registerFieldsOk (s : State) : Prop :=
  s.ctrl &&& ~~~ctrlMask = 0#32 ∧ s.err &&& 0xFF800000#32 = 0#32 ∧
    s.cfg1Len.toNat ≤ 256 ∧ s.cfg2Len.toNat ≤ 256 ∧ s.freqLen.toNat ≤ 256

/-- No FIFO holds more than its capacity (20_memory.md R150), and `rxq` is empty between steps
(47_serial_engine.md R502). -/
def queuesOk (s : State) : Prop :=
  s.rxq = [] ∧ s.txq.length ≤ s.cfg.txqCap ∧ s.evq.length ≤ s.cfg.evqCap ∧ s.plq.length ≤ s.cfg.plqCap

/-- `END` is never seen between steps (10_state.md R58), and `lich_pos` is in 0..5 (R60). -/
def transmitOk (s : State) : Prop := s.tx.state ≠ .ending ∧ s.tx.lichPos.toNat ≤ 5

/-- `pbuf` has `RXBUF_CAP` bytes (10_state.md R62), and while a frame is being read its lengths are within
3 to 255 + `SER_LEN2_BIAS`, by default 510, and the bytes stored are fewer than the length declared
(47_serial_engine.md R511 to R515). The bounds on the bias are the model's condition (log 3). -/
def parserOk (s : State) : Prop :=
  (5 ≤ s.cfg.serial.len2Bias ∧ s.cfg.serial.len2Bias ≤ 257) ∧ s.parser.buf.length = s.cfg.rxbufCap ∧
  match s.parser.pos with
  | .start => True
  | .length1 => s.parser.off.toNat = 1
  | .length2 => s.parser.off.toNat = 2
  | .type =>
    (s.parser.off.toNat = 2 ∧ 3 ≤ s.parser.len.toNat ∧ s.parser.len.toNat ≤ 255) ∨
      (s.parser.off.toNat = 3 ∧ s.cfg.serial.len2Bias ≤ s.parser.len.toNat ∧
        s.parser.len.toNat ≤ 255 + s.cfg.serial.len2Bias)
  | .data =>
    3 ≤ s.parser.off.toNat ∧ s.parser.off.toNat < s.parser.len.toNat ∧
      s.parser.len.toNat ≤ 255 + s.cfg.serial.len2Bias

/-- The call state a data type leads to (45_rx_sequencer.md R410). -/
def callTarget (dt : BitVec 2) : Option RxState :=
  if dt = 1#2 then some .data else if dt = 2#2 then some .audio
  else if dt = 3#2 then some .audioData else none

/-- The receive sequencer holds an LSF only as its rules allow: both buffers are empty in LISTENING
(44_lsf_lich.md R369), late entry holds a primary that is not yet valid, and a call holds a valid primary
(R368) whose data type is the call's (45_rx_sequencer.md R410), its running buffer never left valid
(R417). -/
def receiveOk (s : State) : Prop :=
  match s.rx.state with
  | .listening => s.rx.primary = .empty ∧ s.rx.running = .empty
  | .lateEntry => isValid s.cfg.codec s.rx.primary = false ∧ s.rx.running = .empty
  | .audio | .audioData | .data =>
    isValid s.cfg.codec s.rx.primary = true ∧ isValid s.cfg.codec s.rx.running = false ∧
      callTarget (dataType s.rx.primary.lsf) = some s.rx.state

/-- No version is negotiated and no command waits for a reply. -/
def linkIdle (s : State) : Prop :=
  s.link.portOpen = false ∧ s.link.pendValid = false ∧ s.link.protoVersion = 0#8 ∧ s.timers.poll.run = false ∧
    s.timers.wd.run = false ∧ s.timers.pace.run = false ∧ s.timers.resp.run = false

/-- The port is open and `cmd` waits for its reply, its response timer running. -/
def linkAwaits (cmd : Byte) (s : State) : Prop :=
  s.link.portOpen = true ∧ s.link.pendValid = true ∧ s.link.pendCmd = cmd ∧ s.timers.resp.run = true ∧
    s.timers.poll.run = false ∧ s.timers.wd.run = false ∧ s.timers.pace.run = false ∧
    s.timers.backoff.run = false

/-- What each link state holds (10_state.md R63 to R65, 47_serial_engine.md R528 to R533, R544, R545): which
command is outstanding, which timers run, whether the port is open and a supported version negotiated; and
`tries` stays within the retry limits (48_host_port.md R589). -/
def linkOk (s : State) : Prop :=
  (1 ≤ s.cfg.nVer ∧ s.cfg.nVer ≤ 255 ∧ 1 ≤ s.cfg.nAck ∧ s.cfg.nAck ≤ 255) ∧
  s.link.tries.toNat ≤ max s.cfg.nVer s.cfg.nAck ∧
  (s.link.pendValid = false → s.link.tries = 0#8) ∧
  match s.link.state with
  | .closed => linkIdle s ∧ s.timers.backoff.run = false ∧ s.link.autoReopen = false
  | .backoff => linkIdle s ∧ s.timers.backoff.run = true
  | .version =>
    (linkIdle s ∧ s.timers.backoff.run = false) ∨
      (linkAwaits s.cfg.serial.getVersion s ∧ s.link.protoVersion = 0#8)
  | .config => linkAwaits s.cfg.serial.setConfig s ∧ s.link.protoVersion ∈ s.cfg.versions
  | .freq => linkAwaits s.cfg.serial.setFreq s ∧ s.link.protoVersion ∈ s.cfg.versions
  | .opened =>
    s.link.portOpen = true ∧ s.link.protoVersion ∈ s.cfg.versions ∧
      (s.link.pendValid = true → s.link.pendCmd = s.cfg.serial.setMode) ∧
      s.timers.resp.run = s.link.pendValid ∧ s.timers.poll.run = true ∧ s.timers.backoff.run = false ∧
      s.link.linkErr = false ∧ s.link.autoReopen = false

/-! ### The spec's own wording of some results -/

/-- The product of two polynomials over GF(2), bit k the coefficient of x^k. -/
def polyMul (p q : Nat) (terms : Nat) : Nat :=
  (List.range terms).foldl (fun acc k => if q.testBit k then acc ^^^ (p <<< k) else acc) 0

/-- Bit k of an input sequence flushed with zeros, 0 before its start. -/
def inputAt (u : List Bool) (k : Int) : Bool := if 0 ≤ k then u.getD k.toNat false else false

/-- The bytes `l[5n .. 5n+4]` and then the position in the top three bits (44_lsf_lich.md R371). -/
def fragmentBytes (l : Lsf) (n : Nat) : List Byte :=
  (List.range 5).map (fun i => byteAt l (5 * n + i)) ++ [BitVec.ofNat 8 (n * 32)]

end Sys2Proof.Machine
end

