-- ==== Sys2Proof/Certificates/Slice0/Obligations.lean ====
section
/-! DEFINITION. The statements for the provers. Each says which rules of spec/ it formalises; a statement that
holds of every `State` holds of every configuration of 00_scope.md R9, since a state carries its own. -/

section

open Sys2Proof Sys2Proof.Machine

/-! ### Encodings (30_encoding.md) -/

/-- Decoding an encoded well-formed instruction gives it back (R181 to R184, R210 to R213, R220). -/
def Obligations.DecodeInvertsEncode : Prop :=
  ∀ i : Instr, i.wellFormed = true → decode (encode i) = .ok i

/-- R181, R183, R184: what every `PORT` and `CMD` word decodes to. Ignored bits have no influence. -/
def Obligations.WordFieldsDecode : Prop :=
  (∀ (sel : Byte) (off : BitVec 16) (res : BitVec 6) (data : Word),
    decode (.port (0#2 ++ sel ++ off ++ res ++ data)) = .ok (.rd sel) ∧
    decode (.port (1#2 ++ sel ++ off ++ res ++ data)) = .ok (.wr sel data) ∧
    decode (.port (2#2 ++ sel ++ off ++ res ++ data)) = .ok (.brd sel off) ∧
    decode (.port (3#2 ++ sel ++ off ++ res ++ data)) = .ok (.bwr sel off (data.extractLsb' 0 8))) ∧
  (∀ imm : BitVec 24,
    decode (.cmd (0x00#8 ++ imm)) = .ok .nop ∧
    decode (.cmd (0x01#8 ++ imm)) = .ok (.genc (imm.extractLsb' 0 12)) ∧
    decode (.cmd (0x02#8 ++ imm)) = .ok (.gdec imm) ∧
    decode (.cmd (0x03#8 ++ imm)) = .ok .cencLsf ∧
    decode (.cmd (0x04#8 ++ imm)) = .ok .cdecLsf ∧
    decode (.cmd (0x05#8 ++ imm)) = .ok .cdecLsfSoft ∧
    decode (.cmd (0x06#8 ++ imm)) = .ok .cencStr ∧
    decode (.cmd (0x07#8 ++ imm)) = .ok .cdecStr ∧
    decode (.cmd (0x08#8 ++ imm)) = .ok .cdecStrSoft ∧
    decode (.cmd (0x09#8 ++ imm)) = .ok .ilv ∧
    decode (.cmd (0x0A#8 ++ imm)) = .ok .dilv ∧
    decode (.cmd (0x0B#8 ++ imm)) = .ok .scr ∧
    decode (.cmd (0x0C#8 ++ imm)) = .ok (.crc16 (imm.extractLsb' 0 10)) ∧
    decode (.cmd (0x0D#8 ++ imm)) = .ok .lenc ∧
    decode (.cmd (0x0E#8 ++ imm)) = .ok .ldec ∧
    decode (.cmd (0x10#8 ++ imm)) = .ok (.rxInject (imm.extractLsb' 0 3) (imm.getLsbD 3)) ∧
    decode (.cmd (0x11#8 ++ imm)) = .ok .rxReset ∧
    decode (.cmd (0x20#8 ++ imm)) = .ok .txStart ∧
    decode (.cmd (0x21#8 ++ imm)) = .ok (.txPayload (imm.getLsbD 0)) ∧
    decode (.cmd (0x22#8 ++ imm)) = .ok .txEnd ∧
    decode (.cmd (0x23#8 ++ imm)) = .ok .txNextLsf ∧
    decode (.cmd (0x30#8 ++ imm)) = .ok .linkOpen ∧
    decode (.cmd (0x31#8 ++ imm)) = .ok .linkClose ∧
    decode (.cmd (0x32#8 ++ imm)) = .ok (.linkSetMode (imm.extractLsb' 0 8)) ∧
    decode (.cmd (0x40#8 ++ imm)) = .ok .evPop ∧
    decode (.cmd (0x41#8 ++ imm)) = .ok .plPop)

/-- Words of 95_test_vectors.md and 30_encoding.md R188, R189, one of each format, decode to the instruction
they stand for. -/
def Obligations.WrittenOutWordsDecode : Prop :=
  decode (.port 0x03C0000000000000#64) = .ok (.rd 0x0F#8) ∧
  decode (.port 0x4400000001000123#64) = .ok (.wr 0x10#8 0x01000123#32) ∧
  decode (.port 0x820002C000000000#64) = .ok (.brd 0x08#8 11#16) ∧
  decode (.port 0xC1C00BC000000042#64) = .ok (.bwr 0x07#8 47#16 0x42#8) ∧
  decode (.cmd 0x01000123#32) = .ok (.genc 0x123#12) ∧
  decode (.cmd 0x10000008#32) = .ok (.rxInject 0#3 true) ∧
  decode (.ser [0xE0#8, 0x04#8, 0x70#8, 0x02#8]) = .ok (.serAck [0x02#8]) ∧
  decode (.tag ⟨4#3, true, 0#384, false, 0#16⟩) = .ok (.tagEot true 0#384 false 0#16)

/-- 47_serial_engine.md R517: a frame of unknown type, or of a type only the block sends, is dropped with
`E_SER_UNKNOWN` and has no other effect. The type codes are parameters (00_scope.md R9); their defaults are those of
30_encoding.md R213. -/
def Obligations.UnexpectedSerialTypesDropped : Prop :=
  (∀ (t : Byte) (p : List Byte) (s : State),
    let c := s.cfg.serial
    (t ∉ c.types → handleFrame t p s = raise .serUnknown s) ∧
    (c.wf = true → t ∈ [c.setConfig, c.setMode, c.setFreq] → handleFrame t p s = raise .serUnknown s) ∧
    exec (.serSetConfig p) s = .next (raise .serUnknown s) ∧
    exec (.serSetMode p) s = .next (raise .serUnknown s) ∧
    exec (.serSetFreq p) s = .next (raise .serUnknown s)) ∧
  SerialCodes.standard.types = [0x00#8, 0x01#8, 0x02#8, 0x03#8, 0x04#8, 0x45#8, 0x46#8, 0x47#8, 0x48#8, 0x70#8,
    0x7F#8, 0xF1#8, 0xF2#8, 0xF3#8, 0xF4#8, 0xF5#8] ∧
  SerialCodes.standard.wf = true

/-! ### A step runs the decoded instruction -/

/-- 48_host_port.md R580: the host transaction at the head of the pending steps is decoded and run, whole, in
one step. The list of pending steps is the model's own (log 1). -/
def Obligations.StepRunsPortInstruction : Prop :=
  ∀ (s : State) (w : BitVec 64) (rest : List EnvStep) (i : Instr),
    s.inputs = .port w :: rest → decode (.port w) = .ok i →
      step s = exec i { s with inputs := rest, serialOut := [] }

/-- 48_host_port.md R587: a write to `CMD` runs the command its word decodes to, or raises `E_BAD_OP`; R586:
`NOP`, with any `imm`, does nothing. A write returns 0 (R580). -/
def Obligations.CommandWriteRunsCommand : Prop :=
  (∀ (s : State) (word : Word),
    (∀ i, decode (.cmd word) = .ok i →
      ∃ t, exec i s = .next t ∧ exec (.wr 0x10#8 word) s = .next { t with portOut := 0#32 }) ∧
    (∀ e, decode (.cmd word) = .error e →
      exec (.wr 0x10#8 word) s = .next { raise .badOp s with portOut := 0#32 })) ∧
  (∀ s : State, exec .nop s = .next s) ∧
  (∀ (op : Byte) (imm : BitVec 24),
    (op = 0x0F#8 ∨ (0x12 ≤ op.toNat ∧ op.toNat ≤ 0x1F) ∨ (0x24 ≤ op.toNat ∧ op.toNat ≤ 0x2F) ∨
      (0x33 ≤ op.toNat ∧ op.toNat ≤ 0x3F) ∨ 0x42 ≤ op.toNat) ↔
        decode (.cmd (op ++ imm)) = .error .reservedOp)

/-- 47_serial_engine.md R510 to R515, R519, R521, R540: a tick whose bytes are one frame as the writer builds it
runs the frame's instruction, between the tick's other phases. `p` is the parser the frame leaves. The framing bytes
and type codes are the configuration's; that they make sense together is the model's condition (log 3). -/
def Obligations.StepRunsSerialFrame : Prop :=
  ∀ (s : State) (dt : Nat) (type : Byte) (payload : List Byte) (ok : Bool) (rest : List EnvStep) (i : Instr),
    let frame := serFrame type payload s.cfg.serial
    s.inputs = .tick dt frame ok :: rest → s.cfg.serial.wf = true → s.link.portOpen = true →
    s.parser.pos = .start → s.parser.buf.length = s.cfg.rxbufCap →
    frame.length ≤ s.cfg.rxbufCap → payload.length ≤ 251 + s.cfg.serial.len2Bias →
    decode (.ser frame) s.cfg.serial = .ok i →
      ∃ (p : Parser) (t : State), p.pos = .start ∧
        exec i { advanceTimers dt { s with inputs := rest, serialOut := [] } with parser := p } = .next t ∧
        step s = .next (timerActions ok (txDrain (rxDrain t)))

/-- 47_serial_engine.md R500, 45_rx_sequencer.md R400, R425: phase 3 of a tick runs the instruction of the record at
the head of `rxq`, then those of the others in order, each before the next, and then the tick's other phases follow.
`u` is the state phase 2 leaves. -/
def Obligations.StepRunsQueuedTag : Prop :=
  (∀ (s : State) (dt : Nat) (bytes : List Byte) (ok : Bool) (rest : List EnvStep),
    s.inputs = .tick dt bytes ok :: rest →
      let u := parseBytes bytes (advanceTimers dt { s with inputs := rest, serialOut := [] })
      step s = .next (timerActions ok (txDrain (rxDrain u))) ∧
      ∀ (e : TaggedFrame) (more : List TaggedFrame) (i : Instr), u.rxq = e :: more → decode (.tag e) = .ok i →
        ∃ t, exec i { u with rxq := more } = .next t ∧ t.rxq = more ∧
          step s = .next (timerActions ok (txDrain (rxDrain t)))) ∧
  (∀ (s : State) (e : TaggedFrame) (more : List TaggedFrame) (i : Instr),
    s.rxq = e :: more → decode (.tag e) = .ok i →
      ∃ t, exec i { s with rxq := more } = .next t ∧ t.rxq = more ∧ rxDrain s = rxDrain t) ∧
  (∀ s : State, s.rxq = [] → rxDrain s = s)

/-- 47_serial_engine.md R518: bytes short of a whole frame complete no frame; they change the parser alone. R511: a
byte other than `SER_START` between frames is discarded. R512: a length byte of 1 or 2 raises `E_SER_FRAMING` and
abandons the frame. R515: a frame longer than `RXBUF_CAP` is consumed and dropped with `E_SER_LEN`. -/
def Obligations.PartialFrameDispatchesNothing : Prop :=
  (∀ (s : State) (type : Byte) (payload : List Byte) (k : Nat),
    s.cfg.serial.wf = true → payload.length ≤ 251 + s.cfg.serial.len2Bias → s.parser.pos = .start →
    k < (serFrame type payload s.cfg.serial).length →
      ∃ p : Parser,
        ((serFrame type payload s.cfg.serial).take k).foldl (fun s b => parseByte b s) s =
          { s with parser := p }) ∧
  (∀ (s : State) (b : Byte), s.parser.pos = .start → b ≠ s.cfg.serial.start → parseByte b s = s) ∧
  (∀ (s : State) (b : Byte), s.parser.pos = .length1 → b ≠ s.cfg.serial.lenEscape → (b = 1#8 ∨ b = 2#8) →
    ∃ p : Parser, p.pos = .start ∧ parseByte b s = { raise .serFraming s with parser := p }) ∧
  (∀ (s : State) (type : Byte) (payload : List Byte),
    s.cfg.serial.wf = true → payload.length ≤ 251 + s.cfg.serial.len2Bias → s.parser.pos = .start →
    s.cfg.rxbufCap < (serFrame type payload s.cfg.serial).length →
      ∃ p : Parser, p.pos = .start ∧
        (serFrame type payload s.cfg.serial).foldl (fun s b => parseByte b s) s =
          { raise .serLen s with parser := p })

/-! ### Bit transforms (41_bit_transform.md) -/

/-- R251: bit i goes to position (45·i + 92·i²) mod 368; R256: the scrambler is a byte-wise exclusive or and
its own inverse. -/
def Obligations.InterleaverAndScrambler : Prop :=
  (∀ (b : Body) (i : Nat), i < 368 →
    (interleave Codec.standard.interleaveP b).getMsbD ((45 * i + 92 * i * i) % 368) = b.getMsbD i) ∧
  Codec.standard.interleaveP.take 16 =
    [0, 137, 90, 227, 180, 317, 270, 39, 360, 129, 82, 219, 172, 309, 262, 31] ∧
  (∀ (key b : Body) (j : Nat), j < 46 →
    byteAt (scramble key b) j = byteAt b j ^^^ byteAt key j) ∧
  (∀ key b : Body, scramble key (scramble key b) = b)

/-- R252: deinterleaving undoes interleaving, and with this permutation the two are one function. -/
def Obligations.DeinterleaveInvertsInterleave : Prop :=
  ∀ b : Body,
    deinterleave Codec.standard.interleaveP (interleave Codec.standard.interleaveP b) = b ∧
    interleave Codec.standard.interleaveP b = deinterleave Codec.standard.interleaveP b ∧
    ∀ i, i < 368 → (deinterleave Codec.standard.interleaveP b).getMsbD i =
      b.getMsbD ((45 * i + 92 * i * i) % 368)

/-- R253, R254, R258: ILV, DILV and SCR store their 46 bytes from byte 0 of `SCR_OUT` and change nothing else. -/
def Obligations.BitTransformCommandsStore : Prop :=
  ∀ s : State,
    (∃ t, exec .ilv s = .next t ∧ t = { s with mem := t.mem } ∧
      storesBytes s t (cellAddr spScrOut 0)
        (bytesOfSeq (interleave s.cfg.codec.interleaveP (seqOfBytes 368 (memRead spScrIn 0 46 s))))) ∧
    (∃ t, exec .dilv s = .next t ∧ t = { s with mem := t.mem } ∧
      storesBytes s t (cellAddr spScrOut 0)
        (bytesOfSeq (deinterleave s.cfg.codec.interleaveP (seqOfBytes 368 (memRead spScrIn 0 46 s))))) ∧
    (∃ t, exec .scr s = .next t ∧ t = { s with mem := t.mem } ∧
      storesBytes s t (cellAddr spScrOut 0)
        (bytesOfSeq (scramble s.cfg.codec.scrambleKey (seqOfBytes 368 (memRead spScrIn 0 46 s)))))

/-! ### Golay (42_golay.md) -/

/-- R280: the three parts of a codeword, and its three bytes in a frame. R281: the check bits are the remainder of
d(x)·x^11 by the generator: d(x)·x^11 differs from them by a multiple of the generator. -/
def Obligations.GolayCodewordAndCheckBits : Prop :=
  (∀ (poly d : BitVec 12),
    (golayEncode poly d).extractLsb' 12 12 = d ∧
    (golayEncode poly d).extractLsb' 1 11 = golayCheck poly d ∧
    popcount (golayEncode poly d) % 2 = 0 ∧
    bytesOfSeq (golayEncode poly d) =
      [(golayEncode poly d).extractLsb' 16 8, (golayEncode poly d).extractLsb' 8 8,
        (golayEncode poly d).extractLsb' 0 8]) ∧
  Codec.standard.golayPoly = 0xC75#12 ∧
  ∀ d : BitVec 12, ∃ q : Nat, q < 2 ^ 12 ∧
    (d.toNat <<< 11) ^^^ (golayCheck 0xC75#12 d).toNat = polyMul 0xC75 q 12

/-- R286: the decoder is bounded-distance decoding with radius 3. -/
def Obligations.GolayDecoderIsBoundedDistance : Prop :=
  ∀ w : BitVec 24,
    (∀ d : BitVec 12, popcount (golayEncode Codec.standard.golayPoly d ^^^ w) ≤ 3 →
      golayDecode Codec.standard.golayPoly w = (d, true)) ∧
    ((∀ d : BitVec 12, 3 < popcount (golayEncode Codec.standard.golayPoly d ^^^ w)) →
      golayDecode Codec.standard.golayPoly w = (w.extractLsb' 12 12, false))

/-- R284, R288: GENC and GDEC write `RES0` and `RES1` and nothing else, with the rules' own examples. -/
def Obligations.GolayCommands : Prop :=
  (∀ (d : BitVec 12) (s : State),
    exec (.genc d) s =
      .next { s with res0 := (golayEncode s.cfg.codec.golayPoly d).setWidth 32, res1 := 0#32 }) ∧
  (∀ (w : BitVec 24) (s : State),
    exec (.gdec w) s =
      .next { s with
        res0 := (golayDecode s.cfg.codec.golayPoly w).1.setWidth 32
        res1 := if (golayDecode s.cfg.codec.golayPoly w).2 = true then 1#32 else 0#32 }) ∧
  golayEncode Codec.standard.golayPoly 0#12 = 0#24 ∧
  golayEncode Codec.standard.golayPoly 0xFFF#12 = 0xFFFFFF#24 ∧
  golayEncode Codec.standard.golayPoly 0x123#12 = 0x1230AC#24 ∧
  golayDecode Codec.standard.golayPoly 0x1230AD#24 = (0x123#12, true)

/-! ### Convolutional code (43_convolutional.md) -/

/-- R311 to R313: the coded bits as a shift register's taps, the G1 bit of each input first, flushed with four
zeros. -/
def Obligations.ConvolutionalCodeTaps : Prop :=
  ∀ u : List Bool,
    (convEncode Codec.standard u).length = 2 * (u.length + 4) ∧
    ∀ k : Nat, k < u.length + 4 →
      (convEncode Codec.standard u).getD (2 * k) false =
        (inputAt u k ^^ inputAt u (k - 3) ^^ inputAt u (k - 4)) ∧
      (convEncode Codec.standard u).getD (2 * k + 1) false =
        (inputAt u k ^^ inputAt u (k - 1) ^^ inputAt u (k - 2) ^^ inputAt u (k - 4))

/-- R316: puncturing keeps, in order, the bits whose pattern entry is 1; R310: so a block of 240 or 144 bits
fills 368 or 272. -/
def Obligations.PunctureKeepsPatternBits : Prop :=
  (∀ (pat c : List Bool),
    puncture pat c =
      ((List.range c.length).filter fun j => pat.getD (j % pat.length) false).map fun j => c.getD j false) ∧
  (∀ u : List Bool, u.length = 240 →
    (puncture Codec.standard.punctP1 (convEncode Codec.standard u)).length = 368) ∧
  (∀ u : List Bool, u.length = 144 →
    (puncture Codec.standard.punctP2 (convEncode Codec.standard u)).length = 272)

/-- R329: an error-free block decodes to what was encoded, with no errors and the erasure metric. -/
def Obligations.NoiseFreeBlocksDecode : Prop :=
  (∀ u : BitVec 240,
    decodeLinkSetup Codec.standard (encodeLinkSetup Codec.standard u) = (u, 0, 120)) ∧
  (∀ u : BitVec 144,
    decodeData Codec.standard (encodeData Codec.standard u) = (u, 0, 24))

/-- R327: on the hard path the metric is `SMAX` times the error count plus the cost of the erasures. -/
def Obligations.MetricCountsBitErrors : Prop :=
  (∀ b : BitVec 368,
    (decodeLinkSetup Codec.standard b).2.2 = 2 * (decodeLinkSetup Codec.standard b).2.1 + 120) ∧
  (∀ b : BitVec 272,
    (decodeData Codec.standard b).2.2 = 2 * (decodeData Codec.standard b).2.1 + 24)

/-- R319, R330 to R334: what the six commands store in `SCR_OUT` and write to `RES0` and `RES1`, and that they
change nothing else. `RES1` keeps the metric modulo 2^32 (log 10). R318: a stream block is the frame number's
`FN_BITS` bits and the payload's `PAYLOAD_BYTES` bytes; that a command keeps a smaller one in the slots of the
default, padded with zeros, is the model's choice (log 22). -/
def Obligations.ConvolutionalCommands : Prop :=
  ∀ s : State,
    let c := s.cfg.codec
    let soft (k : Nat) : List Nat := (memRead spScrIn 0 k s).map fun b => min b.toNat c.smax
    let slots (bits : List Bool) : BitVec 144 := seqOfBits 144
      (List.replicate (16 - c.fnBits.val) false ++ bits ++ List.replicate (8 * (16 - c.payloadBytes.val)) false)
    (Codec.standard.fnBits.val = 16 ∧ Codec.standard.payloadBytes.val = 16 ∧
      (∀ fb : BitVec 144, encodeData Codec.standard fb =
        seqOfBits 272 (puncture Codec.standard.punctP2 (convEncode Codec.standard (seqBits fb)))) ∧
      ∀ fb : BitVec 144, encodeData c fb =
        seqOfBits 272 (puncture c.punctP2 (convEncode c
          (((seqBits fb).drop (16 - c.fnBits.val)).take (c.fnBits.val + 8 * c.payloadBytes.val))))) ∧
    (∃ t, exec .cencLsf s = .next t ∧ t = { s with mem := t.mem } ∧
      storesBytes s t (cellAddr spScrOut 0)
        (bytesOfSeq (encodeLinkSetup c (seqOfBytes 240 (memRead spScrIn 0 30 s))))) ∧
    (∃ t, exec .cencStr s = .next t ∧ t = { s with mem := t.mem } ∧
      storesBytes s t (cellAddr spScrOut 0)
        (bytesOfSeq (encodeData c (seqOfBytes 144 (memRead spScrIn 0 18 s))))) ∧
    (∀ (r : BitVec 240 × Nat × Nat) (i : Instr),
      ((i = .cdecLsf ∧ r = decodeLinkSetup c (seqOfBytes 368 (memRead spScrIn 0 46 s))) ∨
        (i = .cdecLsfSoft ∧ ∃ v, v = viterbiDecode c c.punctP1 240 (soft 368) ∧
          r = (seqOfBits 240 v.1, v.2.1, v.2.2))) →
      ∃ t, exec i s = .next t ∧
        t = { s with
          mem := t.mem
          res0 := BitVec.ofNat 32 (min r.2.1 (2 ^ 32 - 1))
          res1 := BitVec.ofNat 32 r.2.2 } ∧
        storesBytes s t (cellAddr spScrOut 0) (bytesOfSeq r.1)) ∧
    (∀ (r : BitVec 144 × Nat × Nat) (i : Instr),
      ((i = .cdecStr ∧ r = decodeData c (seqOfBytes 272 (memRead spScrIn 0 34 s))) ∨
        (i = .cdecStrSoft ∧
          ∃ v, v = viterbiDecode c c.punctP2 (c.fnBits.val + 8 * c.payloadBytes.val) (soft 272) ∧
          r = (slots v.1, v.2.1, v.2.2))) →
      ∃ t, exec i s = .next t ∧
        t = { s with
          mem := t.mem
          res0 := BitVec.ofNat 32 (min r.2.1 (2 ^ 32 - 1))
          res1 := BitVec.ofNat 32 r.2.2 } ∧
        storesBytes s t (cellAddr spScrOut 0) (bytesOfSeq r.1))

/-! ### Link Setup Frames and LICH (44_lsf_lich.md) -/

/-- R364: sealing makes the check hold and keeps bytes 0..27; the check holds exactly when the CRC of all 30
bytes is 0. -/
def Obligations.SealedLsfPassesCheck : Prop :=
  (∀ (c : Codec) (l : Lsf),
    crcOk c (lsfSeal c l) = true ∧ lsfCovered (lsfSeal c l) = lsfCovered l) ∧
  (∀ l : Lsf, crcOk Codec.standard l = true ↔ crc16Of Codec.standard (bytesOfSeq l) = 0#16)

/-- R364: one corrupted bit of a sealed LSF always fails the check. -/
def Obligations.CrcRejectsSingleBitErrors : Prop :=
  ∀ (l : Lsf) (i : Nat), i < 240 → crcOk Codec.standard l = true →
    crcOk Codec.standard (l ^^^ (1#240 <<< i)) = false

/-- R365: CRC16 writes `RES0`, and a count above 512 is refused with `E_BAD_OP`. R377, R378: LENC stores 12
bytes; LDEC stores 6, `RES0` has each codeword's flag and `RES1` whether all decoded. Nothing else changes. -/
def Obligations.CrcAndLichCommands : Prop :=
  ∀ s : State,
    (∀ n : BitVec 10, n.toNat ≤ 512 →
      exec (.crc16 n) s =
        .next { s with res0 := (crc16Of s.cfg.codec (memRead spScrIn 0 n.toNat s)).setWidth 32 }) ∧
    (∀ n : BitVec 10, 512 < n.toNat → exec (.crc16 n) s = .next (raise .badOp s)) ∧
    (∃ t, exec .lenc s = .next t ∧ t = { s with mem := t.mem } ∧
      storesBytes s t (cellAddr spScrOut 0)
        (bytesOfSeq (lichEncode s.cfg.codec (seqOfBytes 48 (memRead spScrIn 0 6 s))))) ∧
    (∃ t, exec .ldec s = .next t ∧
      (let r := lichDecode s.cfg.codec (seqOfBytes 96 (memRead spScrIn 0 12 s))
       t = { s with
         mem := t.mem
         res0 := r.2.setWidth 32
         res1 := if r.2 = 0b1111#4 then 1#32 else 0#32 } ∧
       storesBytes s t (cellAddr spScrOut 0) (bytesOfSeq r.1)))

/-- R371: the bytes of a fragment; R379: which fragments are stored, and where. -/
def Obligations.FragmentFeed : Prop :=
  (∀ (l : Lsf) (n : BitVec 3), n.toNat ≤ 5 → bytesOfSeq (getFragment l n) = fragmentBytes l n.toNat) ∧
  (∀ (c : Codec) (buf : LsfBuffer) (b : Lich) (f : Fragment) (okv : BitVec 4),
    lichDecode c b = (f, okv) →
    (okv ≠ 0b1111#4 → feedLich c buf b = (buf, .golayFail)) ∧
    (okv = 0b1111#4 → 5 < (f.extractLsb' 5 3).toNat → feedLich c buf b = (buf, .badPos)) ∧
    (okv = 0b1111#4 → (f.extractLsb' 5 3).toNat ≤ 5 →
      ∃ buf' : LsfBuffer, feedLich c buf b = (buf', .stored (f.extractLsb' 5 3).toNat) ∧
        (∀ j, j < 30 → byteAt buf'.lsf j =
          if j / 5 = (f.extractLsb' 5 3).toNat then byteAt f (j % 5) else byteAt buf.lsf j) ∧
        (∀ k, k < 6 → buf'.cov.getLsbD k =
          (decide (k = (f.extractLsb' 5 3).toNat) || buf.cov.getLsbD k))))

/-- R380: the fragments of a sealed LSF, fed in any order, with any repeats, to an empty buffer give a valid
buffer that holds the LSF. -/
def Obligations.LsfReconstruction : Prop :=
  ∀ (l : Lsf) (order : List (BitVec 3)),
    crcOk Codec.standard l = true → (∀ n ∈ order, n.toNat ≤ 5) → (∀ k, k ≤ 5 → BitVec.ofNat 3 k ∈ order) →
      isValid Codec.standard
        (order.foldl (fun buf n =>
          (feedLich Codec.standard buf (lichEncode Codec.standard (getFragment l n))).1) .empty) = true ∧
      (order.foldl (fun buf n =>
          (feedLich Codec.standard buf (lichEncode Codec.standard (getFragment l n))).1) .empty).lsf = l

/-! ### Receive sequencer (45_rx_sequencer.md) -/

/-- R410 to R414: what a HEADER does outside a call. Its RSSI is reported first (R402). -/
def Obligations.HeaderOutsideCall : Prop :=
  ∀ (s : State) (hf : Bool) (f : RfFrame) (hr : Bool) (r : BitVec 16),
    (s.rx.state = .listening ∨ s.rx.state = .lateEntry) →
    (checkSync s = false ∨ f.extractLsb' 368 16 = s.cfg.codec.syncLsf) →
      let s1 := if hr then emit (.rssi r) s else s
      let l := rxHeader s.cfg.codec f
      (crcOk s.cfg.codec l = false →
        exec (.tagHeader hf f hr r) s =
          .next { raise .crc s1 with rx := { s.rx with state := .lateEntry } }) ∧
      (crcOk s.cfg.codec l = true →
        (∀ st, callTarget (dataType l) = some st → (canfEn s = false ∨ lsfCan l = canfVal s) →
          exec (.tagHeader hf f hr r) s =
            .next (emit (.callStart st .header l)
              { s1 with rx := ⟨st, ⟨l, 0b111111#6⟩, .empty, 0#32, 0#32, 0#32, false⟩ })) ∧
        (dataType l = 0#2 →
          exec (.tagHeader hf f hr r) s = .next (rejectedState .dataType .rejType l s1)) ∧
        (dataType l ≠ 0#2 → canfEn s = true → lsfCan l ≠ canfVal s →
          exec (.tagHeader hf f hr r) s = .next (rejectedState .can .rejCan l s1)))

/-- R405, R410 to R416, R422: what a stream frame does outside a call. The primary buffer is fed; when that
makes it valid the call starts and this frame's payload is decoded. The end-of-stream flag is the frame number's
top bit, bit 15 by default (log 22). -/
def Obligations.DataOutsideCall : Prop :=
  ∀ (s : State) (hf : Bool) (f : RfFrame) (hr : Bool) (r : BitVec 16),
    (s.rx.state = .listening ∨ s.rx.state = .lateEntry) →
    (checkSync s = false ∨ f.extractLsb' 368 16 = s.cfg.codec.syncStream) →
      let s1 := if hr then emit (.rssi r) s else s
      let fed := feedLich s.cfg.codec s.rx.primary (rxLich s.cfg.codec f)
      let s2 := match fed.2 with
        | .stored _ => s1
        | .golayFail => raise .golay s1
        | .badPos => raise .lichPos s1
      let d := rxData s.cfg.codec f
      (isValid s.cfg.codec fed.1 = false →
        exec (.tagData hf f hr r) s =
          .next { s2 with rx := { s.rx with primary := fed.1, state := .lateEntry } }) ∧
      (isValid s.cfg.codec fed.1 = true →
        (∀ st, callTarget (dataType fed.1.lsf) = some st →
          (canfEn s = false ∨ lsfCan fed.1.lsf = canfVal s) →
          let u := pushPlq ⟨d.1, st, BitVec.ofNat 16 d.2.2, d.2.1⟩
            (emit (.callStart st .lateEntry fed.1.lsf)
              { s2 with rx := ⟨st, fed.1, .empty, 1#32, 272#32, satAdd32 0#32 d.2.2, false⟩ })
          exec (.tagData hf f hr r) s =
            .next (if eosEnd s = true ∧ d.1.getLsbD (s.cfg.codec.fnBits.val - 1) = true then
              callEnd .eos u else u)) ∧
        (dataType fed.1.lsf = 0#2 →
          exec (.tagData hf f hr r) s = .next (rejectedState .dataType .rejType fed.1.lsf s2)) ∧
        (dataType fed.1.lsf ≠ 0#2 → canfEn s = true → lsfCan fed.1.lsf ≠ canfVal s →
          exec (.tagData hf f hr r) s = .next (rejectedState .can .rejCan fed.1.lsf s2)))

/-- R405, R416, R417, R422: what a stream frame does in a call. The counters saturate and advance whether or not
the payload FIFO has room; the running LSF is fed and, once valid, reported and emptied; the primary is not touched;
with `EOS_END` an end-of-stream frame number (its top bit set, bit 15 by default, log 22) then ends the call. Its
RSSI is reported first (R402). Where the payload FIFO is full and the LICH fails, R416 and R632 give the two errors in
different orders; that the configuration says which is the model's choice (log 20). -/
def Obligations.DataInCall : Prop :=
  ∀ (s : State) (hf : Bool) (f : RfFrame) (hr : Bool) (r : BitVec 16),
    (s.rx.state = .audio ∨ s.rx.state = .audioData ∨ s.rx.state = .data) →
    (checkSync s = false ∨ f.extractLsb' 368 16 = s.cfg.codec.syncStream) →
      let s1 := if hr then emit (.rssi r) s else s
      let d := rxData s.cfg.codec f
      let fed := feedLich s.cfg.codec s.rx.running (rxLich s.cfg.codec f)
      let rx1 : RxUnit := { s.rx with
        frames := BitVec.ofNat 32 (min (s.rx.frames.toNat + 1) (2 ^ 32 - 1))
        bits := BitVec.ofNat 32 (min (s.rx.bits.toNat + 272) (2 ^ 32 - 1))
        errs := BitVec.ofNat 32 (min (s.rx.errs.toNat + d.2.2) (2 ^ 32 - 1)) }
      let queue (u : State) : State :=
        if s.plq.length < s.cfg.plqCap then
          { u with plq := s.plq ++ [⟨d.1, s.rx.state, BitVec.ofNat 16 d.2.2, d.2.1⟩] }
        else raise .plqOvf u
      let counted : State := { s1 with rx := rx1 }
      let fedState : State := match fed.2 with
        | .stored _ =>
          if isValid s.cfg.codec fed.1 = true then
            { emit (.auxLsf fed.1.lsf) (queue counted) with rx := { rx1 with running := .empty } }
          else { queue counted with rx := { rx1 with running := fed.1 } }
        | .golayFail =>
          if s.cfg.errorOrder = .asListed then queue (raise .golay counted) else raise .golay (queue counted)
        | .badPos =>
          if s.cfg.errorOrder = .asListed then queue (raise .lichPos counted) else raise .lichPos (queue counted)
      exec (.tagData hf f hr r) s =
        .next (if eosEnd s = true ∧ d.1.getLsbD (s.cfg.codec.fnBits.val - 1) = true then
            { emit (.callEnd .eos s.rx.state rx1.frames rx1.bits rx1.errs) fedState with
              rx := { rx1 with state := .listening, primary := .empty, running := .empty } }
          else fedState)

/-- R401, R423, R424: which frames the sync check drops, and which are ignored but for their RSSI. -/
def Obligations.SyncCheckAndIgnoredFrames : Prop :=
  ∀ (s : State) (hf : Bool) (f : RfFrame) (hr : Bool) (r : BitVec 16),
    (checkSync s = true → f.extractLsb' 368 16 ≠ s.cfg.codec.syncLsf →
      exec (.tagHeader hf f hr r) s = .next (raise .sync s)) ∧
    (checkSync s = true → f.extractLsb' 368 16 ≠ s.cfg.codec.syncStream →
      exec (.tagData hf f hr r) s = .next (raise .sync s)) ∧
    (checkSync s = false → ∀ f' : RfFrame, f'.extractLsb' 0 368 = f.extractLsb' 0 368 →
      exec (.tagHeader hf f' hr r) s = exec (.tagHeader hf f hr r) s ∧
      exec (.tagData hf f' hr r) s = exec (.tagData hf f hr r) s) ∧
    (∀ f' : RfFrame, exec (.tagLost hf f' hr r) s = exec (.tagLost hf f hr r) s ∧
      exec (.tagEot hf f' hr r) s = exec (.tagEot hf f hr r) s) ∧
    exec (.tagData2 hf f hr r) s = .next (if hr then emit (.rssi r) s else s) ∧
    ((s.rx.state = .audio ∨ s.rx.state = .audioData ∨ s.rx.state = .data) →
      (checkSync s = false ∨ f.extractLsb' 368 16 = s.cfg.codec.syncLsf) →
      exec (.tagHeader hf f hr r) s = .next (if hr then emit (.rssi r) s else s))

/-- R418 to R421: LOST and EOT end a call and report its counters, or re-enter LISTENING without an event. Both
buffers are empty afterwards; the counters stay; LOST alone clears the reject latch. -/
def Obligations.LostAndEotEndCalls : Prop :=
  ∀ (s : State) (hf : Bool) (f : RfFrame) (hr : Bool) (r : BitVec 16),
    let s1 := if hr then emit (.rssi r) s else s
    let rx1 : RxUnit := { s.rx with state := .listening, primary := ⟨0#240, 0#6⟩, running := ⟨0#240, 0#6⟩ }
    ((s.rx.state = .audio ∨ s.rx.state = .audioData ∨ s.rx.state = .data) →
      exec (.tagLost hf f hr r) s =
        .next { emit (.callEnd .lost s.rx.state s.rx.frames s.rx.bits s.rx.errs) s1 with
          rx := { rx1 with rejLatch := false } } ∧
      exec (.tagEot hf f hr r) s =
        .next { emit (.callEnd .eot s.rx.state s.rx.frames s.rx.bits s.rx.errs) s1 with rx := rx1 }) ∧
    ((s.rx.state = .listening ∨ s.rx.state = .lateEntry) →
      exec (.tagLost hf f hr r) s = .next { s1 with rx := { rx1 with rejLatch := false } } ∧
      exec (.tagEot hf f hr r) s = .next { s1 with rx := rx1 })

/-- R426, item 3: six clean stream frames of a sealed LSF at positions 0..5 start its call: LATE_ENTRY after each
of the first five, and with the sixth one call start via late entry and one payload record. -/
def Obligations.SixFramesMakeLateEntry : Prop :=
  ∀ (s : State) (l : Lsf) (st : RxState) (fn : Nat → BitVec 16) (p : Nat → Payload),
    s.cfg.codec = Codec.standard → s.rx.state = .listening → s.rx.primary = .empty →
    crcOk Codec.standard l = true → callTarget (dataType l) = some st →
    (canfEn s = false ∨ lsfCan l = canfVal s) → eosEnd s = false →
      let frames : List Instr := (List.range 6).map fun n =>
        .tagData true (txStream Codec.standard l (BitVec.ofNat 3 n) (fn n) (p n)) false 0#16
      (∀ k, 1 ≤ k → k ≤ 5 → ∃ t, execAll (frames.take k) s = .next t ∧ t.rx.state = .lateEntry ∧
        t.evq = s.evq ∧ t.plq = s.plq) ∧
      ∃ t, execAll frames s = .next t ∧
        t.rx = ⟨st, ⟨l, 0b111111#6⟩, .empty, 1#32, 272#32, 0#32, false⟩ ∧
        (s.evq.length + 1 ≤ s.cfg.evqCap → s.plq.length + 1 ≤ s.cfg.plqCap →
          t.evq = s.evq ++ [.callStart st .lateEntry l] ∧ t.plq = s.plq ++ [⟨fn 5, st, 0#16, p 5⟩])

/-- R430: RX_INJECT runs the tagged-frame instruction of its operands and reports the state; reserved tags are
refused. R431: RX_RESET. -/
def Obligations.ReceiveCommands : Prop :=
  ∀ s : State,
    (∀ (tag : BitVec 3) (hr : Bool),
      (tag.toNat ≤ 4 →
        ∃ i t, decode (.tag
            ⟨tag, decide (tag ≠ 3#3),
              if tag = 3#3 then 0#384 else seqOfBytes 384 (memRead spScrIn 0 48 s), hr,
              if hr then bufByte spScrIn 48 s ++ bufByte spScrIn 49 s else 0#16⟩) = .ok i ∧
          exec i s = .next t ∧
          exec (.rxInject tag hr) s = .next { t with res0 := match t.rx.state with
            | .listening => 0#32 | .lateEntry => 1#32 | .audio => 2#32 | .audioData => 3#32 | .data => 4#32 }) ∧
      (4 < tag.toNat → exec (.rxInject tag hr) s = .next (raise .badOp s))) ∧
    exec .rxReset s =
      .next { s with rx := ⟨.listening, ⟨0#240, 0#6⟩, ⟨0#240, 0#6⟩, 0#32, 0#32, 0#32, false⟩ }

/-! ### Transmit builder (46_tx_builder.md) -/

/-- R461, R473, R475: TX_START, TX_END and TX_NEXT_LSF in every transmit state. -/
def Obligations.TransmitCommands : Prop :=
  ∀ s : State,
    (s.tx.state = .none →
      let l := lsfSeal s.cfg.codec (seqOfBytes 240 (memRead spTxLsf 0 30 s))
      exec .txStart s = .next { s with tx := ⟨.header, l, false, l, 0#3, 0#15, 0#32⟩ }) ∧
    (s.tx.state ≠ .none → exec .txStart s = .next (raise .txState s)) ∧
    (s.tx.state = .none → exec .txEnd s = .next (raise .txState s)) ∧
    (s.tx.state = .header → exec .txEnd s = .next { s with tx := { s.tx with state := .none } }) ∧
    (s.tx.state = .audio →
      exec .txEnd s =
        .next { pushTxq ⟨4#3, BitVec.replicate 24 s.cfg.codec.syncEot⟩ s with
          tx := { s.tx with state := .none } }) ∧
    exec .txNextLsf s = .next { s with tx := { s.tx with nextPending := true } }

/-- R464, R466 to R469: TX_PAYLOAD queues the HEADER frame of a call's first payload and the STREAM frame, as far
as the queue takes them, and advances the builder whether or not it does. Each frame it does not take raises
`E_TXQ_OVF` once (R469, 60_exceptions.md R632); if it takes both, no error and no event. The frame number is the
counter with the EOS flag above it, 15 bits and bit 15 by default (log 22). -/
def Obligations.PayloadCommand : Prop :=
  ∀ (s : State) (eos : Bool),
    (s.tx.state = .none → exec (.txPayload eos) s = .next (raise .txState s)) ∧
    ((s.tx.state = .header ∨ s.tx.state = .audio) →
      let c := s.cfg.codec
      let lich := if s.tx.lichPos = 0#3 then
          (if s.tx.nextPending = true then lsfSeal c (seqOfBytes 240 (memRead spNextLsf 0 30 s)) else s.tx.hdrLsf)
        else s.tx.lichLsf
      let count := 2 ^ (c.fnBits.val - 1)
      let fn : BitVec 16 := BitVec.ofNat 16 (eos.toNat * count + s.tx.fn.toNat % count)
      let built : List TxEntry :=
        (if s.tx.state = .header then [⟨0#3, txHeader c s.tx.hdrLsf⟩] else []) ++
          [⟨1#3, txStream c lich s.tx.lichPos fn (seqOfBytes 128 (memRead spScrIn 0 16 s))⟩]
      ∃ t, exec (.txPayload eos) s = .next t ∧
        t = { s with tx := t.tx, txq := t.txq, res0 := t.res0, err := t.err, evq := t.evq } ∧
        t.tx = { s.tx with
          state := .audio
          lichLsf := lich
          nextPending := if s.tx.lichPos = 0#3 then false else s.tx.nextPending
          lichPos := BitVec.ofNat 3 ((s.tx.lichPos.toNat + 1) % 6)
          fn := BitVec.ofNat 15 ((s.tx.fn.toNat + 1) % count)
          frames := BitVec.ofNat 32 (min (s.tx.frames.toNat + 1) (2 ^ 32 - 1)) } ∧
        t.res0 = fn.setWidth 32 ∧ (c.fnBits.val = 16 → fn = BitVec.ofBool eos ++ s.tx.fn) ∧
        t.txq = s.txq ++ built.take (s.cfg.txqCap - s.txq.length) ∧
        (let dropped := built.length - (s.cfg.txqCap - s.txq.length)
         t.err = ((raise .txqOvf)^[dropped] s).err ∧ t.evq = ((raise .txqOvf)^[dropped] s).evq ∧
           (s.txq.length + built.length ≤ s.cfg.txqCap → t.err = s.err ∧ t.evq = s.evq)) ∧
        t.err.getLsbD 17 =
          (s.err.getLsbD 17 || decide (s.cfg.txqCap < s.txq.length + built.length)))

/-- R476: from NONE, with room in the queue, TX_START, N ≥ 1 payloads and TX_END leave one HEADER, N STREAM frames
with positions k mod 6 and frame numbers k modulo 2^15, or what a smaller `FN_BITS` leaves below the EOS flag (log
22), and one EOT, in that order. -/
def Obligations.WholeCallQueuesItsFrames : Prop :=
  ∀ (s : State) (n : Nat),
    s.tx.state = .none → s.txq = [] → 1 ≤ n → n + 2 ≤ s.cfg.txqCap →
      let c := s.cfg.codec
      let l := lsfSeal c (seqOfBytes 240 (memRead spTxLsf 0 30 s))
      ∃ t, execAll (.txStart :: (List.replicate n (.txPayload false) ++ [.txEnd])) s = .next t ∧
        t.tx.state = .none ∧
        t.txq = ⟨0#3, txHeader c l⟩ :: ((List.range n).map (fun k =>
            ⟨1#3, txStream c l (BitVec.ofNat 3 (k % 6)) (BitVec.ofNat 16 (k % 2 ^ (c.fnBits.val - 1)))
              (seqOfBytes 128 (memRead spScrIn 0 16 s))⟩) ++ [⟨4#3, txEot c⟩])

/-- R462, R463 with 45_rx_sequencer.md R403: what the builder puts in a frame the receiver's field split takes
out of it. -/
def Obligations.FramesRoundTrip : Prop :=
  (∀ l : Lsf, rxHeader Codec.standard (txHeader Codec.standard l) = l) ∧
  (∀ (l : Lsf) (n : BitVec 3) (fn : BitVec 16) (p : Payload),
    rxLich Codec.standard (txStream Codec.standard l n fn p) =
        lichEncode Codec.standard (getFragment l n) ∧
      rxData Codec.standard (txStream Codec.standard l n fn p) = (fn, p, 0))

/-- R477: TXB commands neither read nor write RXS state, and RXS instructions neither read nor write TXB
state: with the other unit's fields replaced, the result is the same with them replaced. -/
def Obligations.TransmitAndReceiveIndependent : Prop :=
  ∀ (s t : State) (i : Instr), exec i s = .next t →
    ((i = .txStart ∨ (∃ eos, i = .txPayload eos) ∨ i = .txEnd ∨ i = .txNextLsf) →
      t.rx = s.rx ∧ ∀ x : RxUnit, exec i { s with rx := x } = .next { t with rx := x }) ∧
    (((∃ tag hr, i = .rxInject tag hr) ∨ i = .rxReset ∨ (∃ hf f hr r, i = .tagHeader hf f hr r) ∨
        (∃ hf f hr r, i = .tagData hf f hr r) ∨ (∃ hf f hr r, i = .tagData2 hf f hr r) ∨
        (∃ hf f hr r, i = .tagLost hf f hr r) ∨ (∃ hf f hr r, i = .tagEot hf f hr r)) →
      t.tx = s.tx ∧ t.txq = s.txq ∧ ∀ x : TxUnit, exec i { s with tx := x } = .next { t with tx := x })

/-! ### Serial engine (47_serial_engine.md) -/

/-- R560, R561 with R533, R562: LINK_OPEN, LINK_CLOSE and LINK_SET_MODE in every link state. -/
def Obligations.LinkCommands : Prop :=
  ∀ (s : State) (mode : Byte),
    (s.link.state = .closed →
      exec .linkOpen s =
        .next { s with
          link := { s.link with state := .version, autoReopen := false }
          timers := { s.timers with backoff := timerStop s.timers.backoff } }) ∧
    (s.link.state = .backoff →
      exec .linkOpen s =
        .next { s with
          link := { s.link with state := .version }
          timers := { s.timers with backoff := timerStop s.timers.backoff } }) ∧
    ((s.link.state ≠ .closed ∧ s.link.state ≠ .backoff) →
      exec .linkOpen s = .next (raise .linkState s)) ∧
    exec .linkClose s =
      .next (emit (.link .closed 0#8)
        { s with
          parser := { s.parser with pos := .start, off := 0#16, len := 0#16, type := 0#8 }
          link := { s.link with
            state := .closed, portOpen := false, autoReopen := false, pendValid := false
            pendCmd := 0#8, tries := 0#8, protoVersion := 0#8, space := 0#8 }
          timers :=
            ⟨⟨false, s.timers.poll.el⟩, ⟨false, s.timers.wd.el⟩, ⟨false, s.timers.pace.el⟩,
              ⟨false, s.timers.backoff.el⟩, ⟨false, s.timers.resp.el⟩⟩
          txq := [] }) ∧
    (s.link.state = .opened → s.link.pendValid = false →
      exec (.linkSetMode mode) s =
        .next { s with
          serialOut := s.serialOut ++ [s.cfg.serial.start, 0x04#8, s.cfg.serial.setMode, mode]
          link := { s.link with pendValid := true, pendCmd := s.cfg.serial.setMode, tries := 1#8 }
          timers := { s.timers with resp := ⟨true, 0#32⟩ } }) ∧
    ((s.link.state ≠ .opened ∨ s.link.pendValid = true) →
      exec (.linkSetMode mode) s = .next (raise .linkState s))

/-- R521, R522 with 20_memory.md R150, R151: in OPEN, inbound M17 frames are re-tagged and appended to `rxq`, or
dropped with `E_RXQ_OVF` where it is full. -/
def Obligations.InboundM17Frames : Prop :=
  ∀ (s : State) (payload : List Byte) (i : Instr) (tag : BitVec 3),
    let queued (e : TaggedFrame) : State :=
      if s.rxq.length < s.cfg.rxqCap then { s with rxq := s.rxq ++ [e] } else raise .rxqOvf s
    ((i = .serM17LinkSetup payload ∧ tag = 0#3) ∨ (i = .serM17Stream payload ∧ tag = 1#3) ∨
      (i = .serM17Packet payload ∧ tag = 2#3) →
      (s.link.state = .opened → payload.length = 48 →
        exec i s = .next (queued ⟨tag, true, seqOfBytes 384 payload, false, 0#16⟩)) ∧
      (s.link.state = .opened → payload.length = 50 →
        exec i s = .next (queued ⟨tag, true, seqOfBytes 384 (payload.take 48), true,
          payload.getD 48 0#8 ++ payload.getD 49 0#8⟩)) ∧
      (s.link.state = .opened → payload.length ≠ 48 → payload.length ≠ 50 →
        exec i s = .next (raise .serLen s)) ∧
      (s.link.state ≠ .opened → exec i s = .next s)) ∧
    (s.link.state = .opened →
      exec (.serM17Lost payload) s = .next (queued ⟨3#3, false, 0#384, false, 0#16⟩)) ∧
    (s.link.state ≠ .opened → exec (.serM17Lost payload) s = .next s)

/-- R521, R523 with R528: a version reply, awaited or not, recognised or not, or too short. -/
def Obligations.VersionReplies : Prop :=
  ∀ (s : State) (v : Byte) (rest : List Byte),
    (s.link.state = .version → s.link.pendValid = true → v ∈ s.cfg.versions →
      exec (.serGetVersion (v :: rest)) s =
        .next { s with
          link := { s.link with
            state := .config, protoVersion := v, pendValid := true, pendCmd := s.cfg.serial.setConfig
            tries := 1#8 }
          timers := { s.timers with resp := ⟨true, 0#32⟩ }
          serialOut := s.serialOut ++ serFrame s.cfg.serial.setConfig
            (if v = 1#8 then memRead spCfg1 0 s.cfg1Len.toNat s else memRead spCfg2 0 s.cfg2Len.toNat s)
            s.cfg.serial }) ∧
    (s.link.state = .version → s.link.pendValid = true → v ∉ s.cfg.versions →
      exec (.serGetVersion (v :: rest)) s = .next (raise .badVersion s)) ∧
    ((s.link.state ≠ .version ∨ s.link.pendValid = false) →
      exec (.serGetVersion (v :: rest)) s = .next s) ∧
    exec (.serGetVersion []) s = .next (raise .serLen s)

/-- R526, R527: a status reply, and the five debug frames. That a negotiated version other than 1 and 2 has layout
2 is the model's choice (log 8). -/
def Obligations.StatusAndDebugFrames : Prop :=
  ∀ (s : State) (payload : List Byte),
    let lay := if s.link.protoVersion = 1#8 then s.cfg.statusLayout1 else s.cfg.statusLayout2
    let dbg (t : Byte) : State := emit (.debug t (BitVec.ofNat 8 (min payload.length 255))) s
    (s.link.state = .opened → lay.minLen ≤ payload.length →
      exec (.serGetStatus payload) s =
        .next { s with
          link := { s.link with
            modemMode := payload.getD lay.modeOff 0#8
            modemFlags := payload.getD lay.flagsOff 0#8
            space := payload.getD lay.spaceOff 0#8 }
          timers := { s.timers with wd := ⟨false, s.timers.wd.el⟩ } }) ∧
    (s.link.state = .opened → payload.length < lay.minLen →
      exec (.serGetStatus payload) s = .next (raise .serLen s)) ∧
    (s.link.state ≠ .opened → exec (.serGetStatus payload) s = .next s) ∧
    exec (.serDebug1 payload) s = .next (dbg s.cfg.serial.debug1) ∧
    exec (.serDebug2 payload) s = .next (dbg s.cfg.serial.debug2) ∧
    exec (.serDebug3 payload) s = .next (dbg s.cfg.serial.debug3) ∧
    exec (.serDebug4 payload) s = .next (dbg s.cfg.serial.debug4) ∧
    exec (.serDebug5 payload) s = .next (dbg s.cfg.serial.debug5)

/-- R521, R524, R528, R531: an ACK in every state that awaits one, one that nothing awaits, and one too short. -/
def Obligations.AckReplies : Prop :=
  ∀ (s : State) (c : Byte) (rest : List Byte),
    ((s.link.pendValid = true ∧ s.link.pendCmd ∈ [s.cfg.serial.setConfig, s.cfg.serial.setMode, s.cfg.serial.setFreq]) →
      (s.link.state = .config →
        exec (.serAck (c :: rest)) s =
          .next { s with
            link := { s.link with state := .freq, pendValid := true, pendCmd := s.cfg.serial.setFreq, tries := 1#8 }
            timers := { s.timers with resp := ⟨true, 0#32⟩ }
            serialOut := s.serialOut ++ serFrame s.cfg.serial.setFreq (memRead spFreq 0 s.freqLen.toNat s)
              s.cfg.serial }) ∧
      (s.link.state = .freq →
        exec (.serAck (c :: rest)) s =
          .next (emit (.link .opened s.link.protoVersion)
            { s with
              link := { s.link with
                state := .opened, pendValid := false, tries := 0#8, linkErr := false
                autoReopen := false, space := 0#8 }
              timers := { s.timers with
                resp := ⟨false, s.timers.resp.el⟩, poll := ⟨true, 0#32⟩, wd := ⟨true, 0#32⟩ }
              serialOut := s.serialOut ++ [s.cfg.serial.start, 0x03#8, s.cfg.serial.getStatus] })) ∧
      (s.link.state = .opened →
        exec (.serAck (c :: rest)) s =
          .next { emit (.ackNak 0x70#8 c 0#8) s with
            link := { s.link with pendValid := false, tries := 0#8 }
            timers := { s.timers with resp := ⟨false, s.timers.resp.el⟩ } })) ∧
    ((s.link.pendValid = false ∨ s.link.pendCmd ∉ [s.cfg.serial.setConfig, s.cfg.serial.setMode, s.cfg.serial.setFreq]) →
      exec (.serAck (c :: rest)) s = .next s) ∧
    exec (.serAck []) s = .next (raise .serLen s)

/-- R521, R525, R532, R533: a NAK fails an open, is only reported in OPEN, and is ignored where nothing awaits
it; and what a failed open leaves. -/
def Obligations.NakRepliesAndOpenFailure : Prop :=
  (∀ (s : State) (c r : Byte) (rest : List Byte),
    let u := emit (.ackNak 0x7F#8 c r) { s with link := { s.link with lastNak := r } }
    ((s.link.pendValid = true ∧ s.link.pendCmd ∈ [s.cfg.serial.setConfig, s.cfg.serial.setMode, s.cfg.serial.setFreq]) →
      ((s.link.state = .config ∨ s.link.state = .freq) →
        exec (.serNak (c :: r :: rest)) s = .next (openFail .nak u)) ∧
      (s.link.state = .opened →
        exec (.serNak (c :: r :: rest)) s =
          .next { raise .nak u with
            link := { u.link with pendValid := false, tries := 0#8 }
            timers := { s.timers with resp := ⟨false, s.timers.resp.el⟩ } })) ∧
    ((s.link.pendValid = false ∨ s.link.pendCmd ∉ [s.cfg.serial.setConfig, s.cfg.serial.setMode, s.cfg.serial.setFreq]) →
      exec (.serNak (c :: r :: rest)) s = .next s) ∧
    exec (.serNak [c]) s = .next (raise .serLen s) ∧
    exec (.serNak []) s = .next (raise .serLen s)) ∧
  (∀ (s : State) (code : ErrCode),
    let u := raise .openFail (raise code s)
    let st : LinkState := if s.link.autoReopen = true then .backoff else .closed
    openFail code s = emit (.link st 0#8)
      { u with
        parser := { s.parser with pos := .start, off := 0#16, len := 0#16, type := 0#8 }
        link := { s.link with
          state := st, portOpen := false, pendValid := false, pendCmd := 0#8, tries := 0#8
          protoVersion := 0#8, space := 0#8 }
        timers :=
          ⟨⟨false, s.timers.poll.el⟩, ⟨false, s.timers.wd.el⟩, ⟨false, s.timers.pace.el⟩,
            if s.link.autoReopen = true then ⟨true, 0#32⟩ else ⟨false, s.timers.backoff.el⟩,
            ⟨false, s.timers.resp.el⟩⟩
        txq := [] })

/-- R540, R541, R542: the writer's short and long frames, and the drain: one queued frame a tick, only in OPEN,
with more than one unit of credit and the pacing timer stopped or expired. -/
def Obligations.CreditPacedDrain : Prop :=
  (∀ (t : Byte) (p : List Byte) (s : State),
    (p.length ≤ 252 → sendFrame t p s =
      { s with serialOut := s.serialOut ++ ([s.cfg.serial.start, BitVec.ofNat 8 (p.length + 3), t] ++ p) }) ∧
    (252 < p.length → p.length ≤ 256 → sendFrame t p s =
      { s with serialOut := s.serialOut ++
          ([s.cfg.serial.start, s.cfg.serial.lenEscape,
            BitVec.ofNat 8 (p.length + 4 - s.cfg.serial.len2Bias), t] ++ p) })) ∧
  (∀ s : State,
    (∀ (e : TxEntry) (rest : List TxEntry),
      s.link.state = .opened → 1 < s.link.space.toNat →
      (s.timers.pace.run = false ∨ s.cfg.tPace ≤ s.timers.pace.el.toNat) → s.txq = e :: rest →
      txDrain s =
        { s with
          txq := rest
          serialOut := s.serialOut ++ ([s.cfg.serial.start, 0x33#8,
            if e.tag = 0#3 then s.cfg.serial.linkSetup else if e.tag = 1#3 then s.cfg.serial.stream
            else s.cfg.eotSerType] ++
              bytesOfSeq e.frame)
          link := { s.link with space := BitVec.ofNat 8 (s.link.space.toNat - 1) }
          timers := { s.timers with pace := ⟨true, 0#32⟩ } }) ∧
    ((s.link.state ≠ .opened ∨ s.link.space.toNat ≤ 1 ∨
        (s.timers.pace.run = true ∧ s.timers.pace.el.toNat < s.cfg.tPace) ∨ s.txq = []) →
      txDrain s = s)) ∧
  Params.illustrative.eotSerType = 0x46#8 ∧ Params.illustrative.serial = SerialCodes.standard ∧
  (SerialCodes.standard.start, SerialCodes.standard.lenEscape, SerialCodes.standard.len2Bias) =
    (0xE0#8, 0x00#8, 255)

/-- R544, R545, R546: an unanswered poll takes the link down at the first tick that reaches `T_WD`, and the
backoff's expiry opens the port again. R547: the timer actions in their order. R529: a port that opens, and one that
does not. R530: an expired response timer sends the command again, or gives up after the last attempt
(`NakRepliesAndOpenFailure` says what `openFail` leaves), or reports SET_MODE unanswered. R543: an expired poll timer
sends GET_STATUS. That a configuration's type codes differ is the model's condition (log 3). -/
def Obligations.WatchdogClosesAndReopens : Prop :=
  (∀ (s : State) (dt : Nat) (ok : Bool) (rest : List EnvStep),
    s.inputs = .tick dt [] ok :: rest → s.rxq = [] → s.link.state = .opened → s.timers.wd.run = true →
    s.cfg.tWd ≤ min (s.timers.wd.el.toNat + dt) (2 ^ 32 - 1) →
    s.timers.resp.run = false → s.timers.backoff.run = false →
      ∃ t, step s = .next t ∧ t.link.state = .backoff ∧ t.link.linkErr = true ∧
        t.link.autoReopen = true ∧ t.link.portOpen = false ∧ t.txq = [] ∧
        t.err.getLsbD 14 = true ∧ t.timers.backoff = ⟨true, 0#32⟩ ∧ t.timers.poll.run = false ∧
        (s.evq.length + 2 ≤ s.cfg.evqCap →
          t.evq = s.evq ++ [.error .watchdog, .link .backoff 0#8])) ∧
  (∀ (s : State) (dt : Nat) (rest : List EnvStep),
    s.inputs = .tick dt [] true :: rest → s.rxq = [] → s.link.state = .backoff →
    s.link.portOpen = false → s.timers.backoff.run = true →
    s.cfg.tBackoff ≤ min (s.timers.backoff.el.toNat + dt) (2 ^ 32 - 1) → 0 < s.cfg.tResp →
    s.timers.wd.run = false → s.timers.poll.run = false →
      ∃ t, step s = .next t ∧ t.link.state = .version ∧ t.link.portOpen = true ∧
        t.link.pendValid = true ∧ t.link.pendCmd = s.cfg.serial.getVersion ∧ t.link.tries = 1#8 ∧
        t.timers.backoff.run = false ∧
        t.serialOut = [s.cfg.serial.start, 0x03#8, s.cfg.serial.getVersion]) ∧
  (∀ (s : State) (ok : Bool), timerActions ok s =
    pollAction (watchdogAction (respAction (portAction ok (backoffAction s))))) ∧
  (∀ s : State,
    (s.link.state = .version → s.link.portOpen = false →
      portAction false s = openFail .port s ∧
      portAction true s =
        { s with
          serialOut := s.serialOut ++ [s.cfg.serial.start, 0x03#8, s.cfg.serial.getVersion]
          parser := { s.parser with pos := .start, off := 0#16 }
          link := { s.link with
            portOpen := true, pendValid := true, pendCmd := s.cfg.serial.getVersion, tries := 1#8 }
          timers := { s.timers with resp := ⟨true, 0#32⟩ } }) ∧
    ((s.link.state ≠ .version ∨ s.link.portOpen = true) → ∀ ok, portAction ok s = s)) ∧
  (∀ s : State, s.cfg.serial.wf = true →
    let c := s.cfg.serial
    let due := s.timers.resp.run = true ∧ s.cfg.tResp ≤ s.timers.resp.el.toNat
    let opening := s.link.state = .version ∨ s.link.state = .config ∨ s.link.state = .freq
    let limit := if s.link.pendCmd = c.getVersion then s.cfg.nVer else s.cfg.nAck
    let resent (payload : List Byte) : State :=
      { s with
        serialOut := s.serialOut ++ serFrame s.link.pendCmd payload c
        link := { s.link with tries := BitVec.ofNat 8 (s.link.tries.toNat + 1) }
        timers := { s.timers with resp := ⟨true, 0#32⟩ } }
    (¬due → respAction s = s) ∧
    (due → opening → s.link.tries.toNat < limit →
      (s.link.pendCmd = c.getVersion → respAction s = resent []) ∧
      (s.link.pendCmd = c.setConfig → respAction s = resent
        (if s.link.protoVersion = 1#8 then memRead spCfg1 0 s.cfg1Len.toNat s
          else memRead spCfg2 0 s.cfg2Len.toNat s)) ∧
      (s.link.pendCmd = c.setFreq → respAction s = resent (memRead spFreq 0 s.freqLen.toNat s))) ∧
    (due → opening → limit ≤ s.link.tries.toNat → respAction s = openFail .noResp s) ∧
    (due → s.link.state = .opened →
      respAction s =
        { emit (.ackNak 0x00#8 c.setMode 0x00#8) (raise .noResp s) with
          link := { s.link with pendValid := false, tries := 0#8 }
          timers := { s.timers with resp := ⟨false, s.timers.resp.el⟩ } })) ∧
  (∀ s : State,
    (s.timers.poll.run = true → s.cfg.tPoll ≤ s.timers.poll.el.toNat →
      pollAction s =
        { s with
          serialOut := s.serialOut ++ [s.cfg.serial.start, 0x03#8, s.cfg.serial.getStatus]
          timers := { s.timers with
            poll := ⟨true, 0#32⟩, wd := if s.timers.wd.run = true then s.timers.wd else ⟨true, 0#32⟩ } }) ∧
    ((s.timers.poll.run = false ∨ s.timers.poll.el.toNat < s.cfg.tPoll) → pollAction s = s))

/-- R524, R531, R560: the one instruction that takes the link into OPEN is an ACK while it awaits SET_FREQ's. -/
def Obligations.OnlyAckOpensLink : Prop :=
  ∀ (i : Instr) (s t : State), exec i s = .next t → s.link.state ≠ .opened → t.link.state = .opened →
    s.link.state = .freq ∧ s.link.pendValid = true ∧ ∃ c rest, i = .serAck (c :: rest)

/-- R501, R540: no instruction writes to the serial line while the port is closed. -/
def Obligations.ClosedPortWritesNothing : Prop :=
  ∀ (i : Instr) (s t : State), linkOk s → s.link.portOpen = false → exec i s = .next t →
    t.serialOut = s.serialOut

/-! ### Host port, errors, reset -/

/-- 48_host_port.md R581 with 10_state.md R71 to R83: what each register index reads, field by field, and that
reserved indexes raise `E_BAD_ADDR`. -/
def Obligations.RegisterReads : Prop :=
  (∀ (s : State),
    exec (.rd 0x00#8) s = .next { s with portOut := 0x4D313701#32 } ∧
    exec (.rd 0x01#8) s = .next { s with portOut := s.ctrl } ∧
    exec (.rd 0x02#8) s = .next { s with portOut := s.err } ∧
    exec (.rd 0x04#8) s = .next { s with portOut := s.rx.frames } ∧
    exec (.rd 0x05#8) s = .next { s with portOut := s.rx.bits } ∧
    exec (.rd 0x06#8) s = .next { s with portOut := s.rx.errs } ∧
    exec (.rd 0x08#8) s = .next { s with portOut := s.tx.frames } ∧
    exec (.rd 0x0C#8) s = .next { s with portOut := s.cfg1Len.setWidth 32 } ∧
    exec (.rd 0x0D#8) s = .next { s with portOut := s.cfg2Len.setWidth 32 } ∧
    exec (.rd 0x0E#8) s = .next { s with portOut := s.freqLen.setWidth 32 } ∧
    exec (.rd 0x10#8) s = .next { s with portOut := 0#32 } ∧
    exec (.rd 0x11#8) s = .next { s with portOut := s.res0 } ∧
    exec (.rd 0x12#8) s = .next { s with portOut := s.res1 } ∧
    (∃ v : Word, exec (.rd 0x03#8) s = .next { s with portOut := v } ∧
      (v.extractLsb' 0 3 = match s.rx.state with
        | .listening => 0#3 | .lateEntry => 1#3 | .audio => 2#3 | .audioData => 3#3 | .data => 4#3) ∧
      v.extractLsb' 3 5 = 0#5 ∧
      v.extractLsb' 8 6 = s.rx.primary.cov ∧ v.extractLsb' 14 2 = 0#2 ∧
      v.extractLsb' 16 6 = s.rx.running.cov ∧ v.extractLsb' 22 2 = 0#2 ∧
      v.getLsbD 24 = s.rx.rejLatch ∧ v.extractLsb' 25 7 = 0#7) ∧
    (∃ v : Word, exec (.rd 0x07#8) s = .next { s with portOut := v } ∧
      (v.extractLsb' 0 2 = match s.tx.state with
        | .none => 0#2 | .header => 1#2 | .audio => 2#2 | .ending => 3#2) ∧
      v.extractLsb' 2 2 = 0#2 ∧
      v.extractLsb' 4 3 = s.tx.lichPos ∧ v.getLsbD 7 = s.tx.nextPending ∧ v.extractLsb' 8 8 = 0#8 ∧
      v.extractLsb' 16 15 = s.tx.fn ∧ v.getLsbD 31 = false) ∧
    (∃ v : Word, exec (.rd 0x09#8) s = .next { s with portOut := v } ∧
      (v.extractLsb' 0 3 = match s.link.state with
        | .closed => 0#3 | .version => 1#3 | .config => 2#3 | .freq => 3#3 | .opened => 4#3
        | .backoff => 5#3) ∧
      v.getLsbD 3 = s.link.linkErr ∧
      v.getLsbD 4 = s.link.autoReopen ∧ v.getLsbD 5 = s.link.pendValid ∧
      v.getLsbD 6 = s.link.portOpen ∧ v.getLsbD 7 = false ∧
      v.extractLsb' 8 8 = s.link.protoVersion ∧ v.extractLsb' 16 8 = s.link.space ∧
      v.extractLsb' 24 8 = s.link.tries) ∧
    (∃ v : Word, exec (.rd 0x0A#8) s = .next { s with portOut := v } ∧
      v.extractLsb' 0 8 = s.link.modemMode ∧ v.extractLsb' 8 8 = s.link.modemFlags ∧
      v.extractLsb' 16 8 = s.link.lastNak ∧ v.extractLsb' 24 8 = s.link.pendCmd) ∧
    (∃ v : Word, exec (.rd 0x0B#8) s = .next { s with portOut := v } ∧
      (v.extractLsb' 0 8).toNat = min s.rxq.length 255 ∧
      (v.extractLsb' 8 8).toNat = min s.txq.length 255 ∧
      (v.extractLsb' 16 8).toNat = min s.evq.length 255 ∧
      (v.extractLsb' 24 8).toNat = min s.plq.length 255)) ∧
  (∀ (s : State) (sel : Byte), (sel = 0x0F#8 ∨ 0x13 ≤ sel.toNat) →
    exec (.rd sel) s = .next { raise .badAddr s with portOut := 0#32 })

/-- 48_host_port.md R582: what a write to each register index does; `execute` is what `CommandWriteRunsCommand`
says. -/
def Obligations.RegisterWrites : Prop :=
  ∀ (s : State) (data : Word),
    exec (.wr 0x01#8 data) s = .next { s with ctrl := data &&& 0x000303F1#32, portOut := 0#32 } ∧
    exec (.wr 0x02#8 data) s =
      .next { s with err := s.err &&& ~~~(data &&& 0x007FFFFF#32), portOut := 0#32 } ∧
    exec (.wr 0x0C#8 data) s =
      .next { s with cfg1Len := BitVec.ofNat 9 (min data.toNat 256), portOut := 0#32 } ∧
    exec (.wr 0x0D#8 data) s =
      .next { s with cfg2Len := BitVec.ofNat 9 (min data.toNat 256), portOut := 0#32 } ∧
    exec (.wr 0x0E#8 data) s =
      .next { s with freqLen := BitVec.ofNat 9 (min data.toNat 256), portOut := 0#32 } ∧
    exec (.wr 0x10#8 data) s = .next { execute data s with portOut := 0#32 } ∧
    (∀ sel : Byte, sel ∉ [0x01#8, 0x02#8, 0x0C#8, 0x0D#8, 0x0E#8, 0x10#8] →
      exec (.wr sel data) s = .next { raise .badAddr s with portOut := 0#32 })

/-- 48_host_port.md R583, R584 with 20_memory.md R144, R145: a byte read or written in each buffer space, and the
accesses refused with `E_BAD_ADDR`. A byte written reads back. -/
def Obligations.BufferByteAccess : Prop :=
  (∀ (s : State) (off : BitVec 16) (b : Byte) (row : Byte × Nat × Bool),
    row ∈ [(0#8, 30, true), (1#8, 30, true), (2#8, 30, false), (3#8, 30, false), (4#8, 256, true),
      (5#8, 256, true), (6#8, 256, true), (7#8, 512, true), (8#8, 512, false), (9#8, 64, false),
      (10#8, 32, false), (11#8, 30, false), (12#8, 30, false)] →
    (off.toNat < row.2.1 →
      exec (.brd row.1 off) s = .next { s with portOut := (bufByte row.1 off.toNat s).setWidth 32 }) ∧
    (row.2.1 ≤ off.toNat →
      exec (.brd row.1 off) s = .next { raise .badAddr s with portOut := 0#32 }) ∧
    (off.toNat < row.2.1 → row.2.2 = true →
      ∃ t, exec (.bwr row.1 off b) s = .next t ∧ t = { s with mem := t.mem, portOut := 0#32 } ∧
        storesBytes s t (cellAddr row.1 off.toNat) [b] ∧ bufByte row.1 off.toNat t = b) ∧
    ((row.2.1 ≤ off.toNat ∨ row.2.2 = false) →
      exec (.bwr row.1 off b) s = .next { raise .badAddr s with portOut := 0#32 })) ∧
  (∀ (s : State) (sp : Byte) (off : BitVec 16) (b : Byte), 13 ≤ sp.toNat →
    exec (.brd sp off) s = .next { raise .badAddr s with portOut := 0#32 } ∧
    exec (.bwr sp off b) s = .next { raise .badAddr s with portOut := 0#32 }) ∧
  (∀ (s : State) (off : Nat),
    bufByte 2#8 off s = byteAt s.rx.primary.lsf off ∧ bufByte 3#8 off s = byteAt s.rx.running.lsf off ∧
    bufByte 11#8 off s = byteAt s.tx.hdrLsf off ∧ bufByte 12#8 off s = byteAt s.tx.lichLsf off)

/-- 48_host_port.md R600, R604, R605 with 20_memory.md R159: EV_POP and PL_POP, and every byte of each kind of
record, the state and error codes those of R53, R63 and R620. -/
def Obligations.FifoPops : Prop :=
  (∀ s : State,
    (s.evq = [] → exec .evPop s = .next { s with res0 := 0#32, res1 := 0#32 }) ∧
    (∀ ev rest, s.evq = ev :: rest →
      ∃ t, exec .evPop s = .next t ∧
        t = { s with
          evq := rest
          mem := t.mem
          res0 := BitVec.ofNat 32 (((eventBytes ev).getD 0 0#8).toNat * 256 + ((eventBytes ev).getD 1 0#8).toNat)
          res1 := BitVec.ofNat 32 rest.length } ∧
        storesBytes s t (cellAddr spEvBuf 0)
          (eventBytes ev ++ List.replicate (64 - (eventBytes ev).length) 0#8)) ∧
    (s.plq = [] → exec .plPop s = .next { s with res0 := 0#32, res1 := 0#32 }) ∧
    (∀ r rest, s.plq = r :: rest →
      ∃ t, exec .plPop s = .next t ∧
        t = { s with
          plq := rest
          mem := t.mem
          res0 := 21#32
          res1 := BitVec.ofNat 32 rest.length } ∧
        storesBytes s t (cellAddr spPlBuf 0) (recordBytes r ++ List.replicate 11 0#8))) ∧
  (let rxCode : RxState → Byte := fun st => match st with
      | .listening => 0#8 | .lateEntry => 1#8 | .audio => 2#8 | .audioData => 3#8 | .data => 4#8
    let linkCode : LinkState → Byte := fun st => match st with
      | .closed => 0#8 | .version => 1#8 | .config => 2#8 | .freq => 3#8 | .opened => 4#8 | .backoff => 5#8
    let lsfBytes (l : Lsf) : List Byte := (List.range 30).map fun j => l.extractLsb' (232 - 8 * j) 8
    let wordBytes (w : Word) : List Byte :=
      [w.extractLsb' 24 8, w.extractLsb' 16 8, w.extractLsb' 8 8, w.extractLsb' 0 8]
    (∀ (st : RxState) (l : Lsf),
      eventBytes (.callStart st .header l) = [0x01#8, 32#8, rxCode st, 0#8] ++ lsfBytes l ∧
      eventBytes (.callStart st .lateEntry l) = [0x01#8, 32#8, rxCode st, 1#8] ++ lsfBytes l) ∧
    (∀ (reason : EndReason) (prev : RxState) (frames bits errs : Word),
      eventBytes (.callEnd reason prev frames bits errs) =
        [0x02#8, 14#8, match reason with | .lost => 0#8 | .eot => 1#8 | .eos => 2#8, rxCode prev] ++
          (wordBytes frames ++ wordBytes bits ++ wordBytes errs)) ∧
    (∀ l : Lsf, eventBytes (.auxLsf l) = [0x03#8, 30#8] ++ lsfBytes l) ∧
    (∀ r : BitVec 16, eventBytes (.rssi r) = [0x04#8, 2#8, r.extractLsb' 8 8, r.extractLsb' 0 8]) ∧
    (∀ l : Lsf, eventBytes (.reject .dataType l) = [0x05#8, 31#8, 1#8] ++ lsfBytes l ∧
      eventBytes (.reject .can l) = [0x05#8, 31#8, 2#8] ++ lsfBytes l) ∧
    (∀ k : ErrCode, eventBytes (.error k) = [0x06#8, 1#8, BitVec.ofNat 8 (errNum k)]) ∧
    (∀ (st : LinkState) (v : Byte), eventBytes (.link st v) = [0x07#8, 2#8, linkCode st, v]) ∧
    (∀ type cmd reason : Byte, eventBytes (.ackNak type cmd reason) = [0x08#8, 3#8, type, cmd, reason]) ∧
    (∀ type len : Byte, eventBytes (.debug type len) = [0x09#8, 2#8, type, len]) ∧
    (∀ r : PayloadRecord,
      recordBytes r =
        [r.fn.extractLsb' 8 8, r.fn.extractLsb' 0 8, rxCode r.state, r.errs.extractLsb' 8 8,
          r.errs.extractLsb' 0 8] ++ (List.range 16).map fun j => r.payload.extractLsb' (120 - 8 * j) 8)) ∧
  (∀ ev : Event, (eventBytes ev).length ≤ 34 ∧
    (eventBytes ev).length = 2 + ((eventBytes ev).getD 1 0#8).toNat ∧
    1 ≤ ((eventBytes ev).getD 0 0#8).toNat ∧ ((eventBytes ev).getD 0 0#8).toNat ≤ 9) ∧
  (∀ r : PayloadRecord, (recordBytes r).length = 21)

/-- 60_exceptions.md R621 and 48_host_port.md R601: what raising an error and emitting an event do, with room
in the event FIFO and without; and nothing else changes. The numbers of the 23 codes are those of R620. -/
def Obligations.ErrorsAreRecorded : Prop :=
  [ErrCode.badOp, .badAddr, .golay, .lichPos, .crc, .rejType, .rejCan, .sync, .serFraming, .serLen, .serUnknown,
    .nak, .noResp, .badVersion, .watchdog, .port, .rxqOvf, .txqOvf, .evqOvf, .plqOvf, .txState, .linkState,
    .openFail].map errNum = List.range 23 ∧
  ∀ (s : State) (k : ErrCode) (ev : Event),
    (s.evq.length < s.cfg.evqCap → k ≠ .evqOvf →
      raise k s = { s with err := s.err ||| (1#32 <<< errNum k), evq := s.evq ++ [.error k] }) ∧
    (s.cfg.evqCap ≤ s.evq.length → k ≠ .evqOvf →
      raise k s = { s with err := s.err ||| (1#32 <<< errNum k) ||| (1#32 <<< 18) }) ∧
    raise .evqOvf s = { s with err := s.err ||| (1#32 <<< 18) } ∧
    (s.evq.length < s.cfg.evqCap → emit ev s = { s with evq := s.evq ++ [ev] }) ∧
    (s.cfg.evqCap ≤ s.evq.length → emit ev s = { s with err := s.err ||| (1#32 <<< 18) })

/-- 70_reset_and_hazards.md R680, R681 and 60_exceptions.md R640: what a reset step leaves, and the interrupt
line. That the configuration and the pending steps are kept is the model's (logs 2 and 12). -/
def Obligations.ResetAndInterruptLine : Prop :=
  (∀ (s : State) (rest : List EnvStep), s.inputs = .reset :: rest →
    ∃ t, step s = .next t ∧
      t.rx.state = .listening ∧ t.tx.state = .none ∧ t.parser.pos = .start ∧ t.link.state = .closed ∧
      t.link.portOpen = false ∧ t.link.protoVersion = 0#8 ∧
      t.rxq = [] ∧ t.txq = [] ∧ t.evq = [] ∧ t.plq = [] ∧
      t.timers = ⟨⟨false, 0#32⟩, ⟨false, 0#32⟩, ⟨false, 0#32⟩, ⟨false, 0#32⟩, ⟨false, 0#32⟩⟩ ∧
      t.parser.len = 0#16 ∧ t.parser.off = 0#16 ∧ t.parser.type = 0#8 ∧
      (∀ sel : Byte, (1 ≤ sel.toNat ∧ sel.toNat ≤ 0x0E) ∨ (0x10 ≤ sel.toNat ∧ sel.toNat ≤ 0x12) →
        exec (.rd sel) t = .next { t with portOut := 0#32 }) ∧
      exec (.rd 0x00#8) t = .next { t with portOut := 0x4D313701#32 } ∧
      (∀ (sp : Byte) (off : Nat), bufByte sp off t = 0#8) ∧
      t.serialOut = [] ∧ irq t = false) ∧
  (∀ s : State, irq s = true ↔
    ((s.ctrl.getLsbD 16 = true ∧ (s.evq ≠ [] ∨ s.plq ≠ [])) ∨ (s.ctrl.getLsbD 17 = true ∧ s.err ≠ 0#32)))

/-! ### Invariants -/

/-- The memory keeps its canonical form (log 14). -/
def Obligations.StepKeepsMemoryCanonical : Prop :=
  ∀ s t : State, Memory.wf s.mem → step s = .next t → Memory.wf t.mem

/-- Reserved register bits stay 0 (10_state.md R72, R73, R81), `END` is never seen between steps and the LICH
position stays in 0..5 (R58, R60). -/
def Obligations.StepKeepsFieldsLegal : Prop :=
  ∀ s t : State, registerFieldsOk s → transmitOk s → step s = .next t →
    registerFieldsOk t ∧ transmitOk t

/-- No FIFO exceeds its capacity, and `rxq` is empty between steps (20_memory.md R150, 47_serial_engine.md
R502). -/
def Obligations.StepKeepsQueuesBounded : Prop :=
  ∀ s t : State, queuesOk s → step s = .next t → queuesOk t

/-- The parser bounds every length (47_serial_engine.md R512 to R515, 60_exceptions.md R630). -/
def Obligations.StepKeepsParserBounded : Prop :=
  ∀ s t : State, parserOk s → step s = .next t → parserOk t

/-- An LSF is held and used only as its validity allows (44_lsf_lich.md R368, R369; 45_rx_sequencer.md R417,
R426 item 4). -/
def Obligations.StepKeepsReceiveConsistent : Prop :=
  ∀ s t : State, receiveOk s → step s = .next t → receiveOk t

/-- The link state, the outstanding command, the timers and the negotiated version agree (10_state.md R63 to R65,
47_serial_engine.md section 4). -/
def Obligations.StepKeepsLinkConsistent : Prop :=
  ∀ s t : State, linkOk s → step s = .next t → linkOk t

/-- Every invariant holds right after reset, in every legal configuration. -/
def Obligations.ResetMeetsInvariants : Prop :=
  ∀ p : Params, p.wf = true →
    Memory.wf (State.resetWith p).mem ∧ registerFieldsOk (State.resetWith p) ∧
    transmitOk (State.resetWith p) ∧ queuesOk (State.resetWith p) ∧ parserOk (State.resetWith p) ∧
    receiveOk (State.resetWith p) ∧ linkOk (State.resetWith p)

end
end

