-- ==== Sys2Proof/Laws/State.lean ====
section
/-! SUPPORT. What each named update leaves alone and what it sets, one lemma per field, so that no proof
unfolds an update. -/

namespace Sys2Proof.Machine

/-! ### `emit` -/

@[simp] theorem emit_cfg (ev : Event) (s : State) : (emit ev s).cfg = s.cfg := by unfold emit; split <;> rfl
@[simp] theorem emit_rx (ev : Event) (s : State) : (emit ev s).rx = s.rx := by unfold emit; split <;> rfl
@[simp] theorem emit_tx (ev : Event) (s : State) : (emit ev s).tx = s.tx := by unfold emit; split <;> rfl
@[simp] theorem emit_parser (ev : Event) (s : State) : (emit ev s).parser = s.parser := by unfold emit; split <;> rfl
@[simp] theorem emit_link (ev : Event) (s : State) : (emit ev s).link = s.link := by unfold emit; split <;> rfl
@[simp] theorem emit_timers (ev : Event) (s : State) : (emit ev s).timers = s.timers := by unfold emit; split <;> rfl
@[simp] theorem emit_rxq (ev : Event) (s : State) : (emit ev s).rxq = s.rxq := by unfold emit; split <;> rfl
@[simp] theorem emit_txq (ev : Event) (s : State) : (emit ev s).txq = s.txq := by unfold emit; split <;> rfl
@[simp] theorem emit_plq (ev : Event) (s : State) : (emit ev s).plq = s.plq := by unfold emit; split <;> rfl
@[simp] theorem emit_ctrl (ev : Event) (s : State) : (emit ev s).ctrl = s.ctrl := by unfold emit; split <;> rfl
@[simp] theorem emit_cfg1Len (ev : Event) (s : State) : (emit ev s).cfg1Len = s.cfg1Len := by unfold emit; split <;> rfl
@[simp] theorem emit_cfg2Len (ev : Event) (s : State) : (emit ev s).cfg2Len = s.cfg2Len := by unfold emit; split <;> rfl
@[simp] theorem emit_freqLen (ev : Event) (s : State) : (emit ev s).freqLen = s.freqLen := by unfold emit; split <;> rfl
@[simp] theorem emit_res0 (ev : Event) (s : State) : (emit ev s).res0 = s.res0 := by unfold emit; split <;> rfl
@[simp] theorem emit_res1 (ev : Event) (s : State) : (emit ev s).res1 = s.res1 := by unfold emit; split <;> rfl
@[simp] theorem emit_mem (ev : Event) (s : State) : (emit ev s).mem = s.mem := by unfold emit; split <;> rfl
@[simp] theorem emit_serialOut (ev : Event) (s : State) : (emit ev s).serialOut = s.serialOut := by unfold emit; split <;> rfl
@[simp] theorem emit_portOut (ev : Event) (s : State) : (emit ev s).portOut = s.portOut := by unfold emit; split <;> rfl
@[simp] theorem emit_inputs (ev : Event) (s : State) : (emit ev s).inputs = s.inputs := by unfold emit; split <;> rfl

/-! ### `raise` -/

@[simp] theorem raise_cfg (k : ErrCode) (s : State) : (raise k s).cfg = s.cfg := by unfold raise; split <;> simp
@[simp] theorem raise_rx (k : ErrCode) (s : State) : (raise k s).rx = s.rx := by unfold raise; split <;> simp
@[simp] theorem raise_tx (k : ErrCode) (s : State) : (raise k s).tx = s.tx := by unfold raise; split <;> simp
@[simp] theorem raise_parser (k : ErrCode) (s : State) : (raise k s).parser = s.parser := by unfold raise; split <;> simp
@[simp] theorem raise_link (k : ErrCode) (s : State) : (raise k s).link = s.link := by unfold raise; split <;> simp
@[simp] theorem raise_timers (k : ErrCode) (s : State) : (raise k s).timers = s.timers := by unfold raise; split <;> simp
@[simp] theorem raise_rxq (k : ErrCode) (s : State) : (raise k s).rxq = s.rxq := by unfold raise; split <;> simp
@[simp] theorem raise_txq (k : ErrCode) (s : State) : (raise k s).txq = s.txq := by unfold raise; split <;> simp
@[simp] theorem raise_plq (k : ErrCode) (s : State) : (raise k s).plq = s.plq := by unfold raise; split <;> simp
@[simp] theorem raise_ctrl (k : ErrCode) (s : State) : (raise k s).ctrl = s.ctrl := by unfold raise; split <;> simp
@[simp] theorem raise_cfg1Len (k : ErrCode) (s : State) : (raise k s).cfg1Len = s.cfg1Len := by unfold raise; split <;> simp
@[simp] theorem raise_cfg2Len (k : ErrCode) (s : State) : (raise k s).cfg2Len = s.cfg2Len := by unfold raise; split <;> simp
@[simp] theorem raise_freqLen (k : ErrCode) (s : State) : (raise k s).freqLen = s.freqLen := by unfold raise; split <;> simp
@[simp] theorem raise_res0 (k : ErrCode) (s : State) : (raise k s).res0 = s.res0 := by unfold raise; split <;> simp
@[simp] theorem raise_res1 (k : ErrCode) (s : State) : (raise k s).res1 = s.res1 := by unfold raise; split <;> simp
@[simp] theorem raise_mem (k : ErrCode) (s : State) : (raise k s).mem = s.mem := by unfold raise; split <;> simp
@[simp] theorem raise_serialOut (k : ErrCode) (s : State) : (raise k s).serialOut = s.serialOut := by unfold raise; split <;> simp
@[simp] theorem raise_portOut (k : ErrCode) (s : State) : (raise k s).portOut = s.portOut := by unfold raise; split <;> simp
@[simp] theorem raise_inputs (k : ErrCode) (s : State) : (raise k s).inputs = s.inputs := by unfold raise; split <;> simp

/-! ### `clearErr` -/

@[simp] theorem clearErr_cfg (d : Word) (s : State) : (clearErr d s).cfg = s.cfg := rfl
@[simp] theorem clearErr_rx (d : Word) (s : State) : (clearErr d s).rx = s.rx := rfl
@[simp] theorem clearErr_tx (d : Word) (s : State) : (clearErr d s).tx = s.tx := rfl
@[simp] theorem clearErr_parser (d : Word) (s : State) : (clearErr d s).parser = s.parser := rfl
@[simp] theorem clearErr_link (d : Word) (s : State) : (clearErr d s).link = s.link := rfl
@[simp] theorem clearErr_timers (d : Word) (s : State) : (clearErr d s).timers = s.timers := rfl
@[simp] theorem clearErr_rxq (d : Word) (s : State) : (clearErr d s).rxq = s.rxq := rfl
@[simp] theorem clearErr_txq (d : Word) (s : State) : (clearErr d s).txq = s.txq := rfl
@[simp] theorem clearErr_evq (d : Word) (s : State) : (clearErr d s).evq = s.evq := rfl
@[simp] theorem clearErr_plq (d : Word) (s : State) : (clearErr d s).plq = s.plq := rfl
@[simp] theorem clearErr_ctrl (d : Word) (s : State) : (clearErr d s).ctrl = s.ctrl := rfl
@[simp] theorem clearErr_cfg1Len (d : Word) (s : State) : (clearErr d s).cfg1Len = s.cfg1Len := rfl
@[simp] theorem clearErr_cfg2Len (d : Word) (s : State) : (clearErr d s).cfg2Len = s.cfg2Len := rfl
@[simp] theorem clearErr_freqLen (d : Word) (s : State) : (clearErr d s).freqLen = s.freqLen := rfl
@[simp] theorem clearErr_res0 (d : Word) (s : State) : (clearErr d s).res0 = s.res0 := rfl
@[simp] theorem clearErr_res1 (d : Word) (s : State) : (clearErr d s).res1 = s.res1 := rfl
@[simp] theorem clearErr_mem (d : Word) (s : State) : (clearErr d s).mem = s.mem := rfl
@[simp] theorem clearErr_serialOut (d : Word) (s : State) : (clearErr d s).serialOut = s.serialOut := rfl
@[simp] theorem clearErr_portOut (d : Word) (s : State) : (clearErr d s).portOut = s.portOut := rfl
@[simp] theorem clearErr_inputs (d : Word) (s : State) : (clearErr d s).inputs = s.inputs := rfl
@[simp] theorem clearErr_err (d : Word) (s : State) : (clearErr d s).err = s.err &&& ~~~(d &&& 0x007FFFFF#32) := rfl

/-! ### `pushRxq` -/

@[simp] theorem pushRxq_cfg (e : TaggedFrame) (s : State) : (pushRxq e s).cfg = s.cfg := by unfold pushRxq; split <;> simp
@[simp] theorem pushRxq_rx (e : TaggedFrame) (s : State) : (pushRxq e s).rx = s.rx := by unfold pushRxq; split <;> simp
@[simp] theorem pushRxq_tx (e : TaggedFrame) (s : State) : (pushRxq e s).tx = s.tx := by unfold pushRxq; split <;> simp
@[simp] theorem pushRxq_parser (e : TaggedFrame) (s : State) : (pushRxq e s).parser = s.parser := by unfold pushRxq; split <;> simp
@[simp] theorem pushRxq_link (e : TaggedFrame) (s : State) : (pushRxq e s).link = s.link := by unfold pushRxq; split <;> simp
@[simp] theorem pushRxq_timers (e : TaggedFrame) (s : State) : (pushRxq e s).timers = s.timers := by unfold pushRxq; split <;> simp
@[simp] theorem pushRxq_txq (e : TaggedFrame) (s : State) : (pushRxq e s).txq = s.txq := by unfold pushRxq; split <;> simp
@[simp] theorem pushRxq_plq (e : TaggedFrame) (s : State) : (pushRxq e s).plq = s.plq := by unfold pushRxq; split <;> simp
@[simp] theorem pushRxq_ctrl (e : TaggedFrame) (s : State) : (pushRxq e s).ctrl = s.ctrl := by unfold pushRxq; split <;> simp
@[simp] theorem pushRxq_cfg1Len (e : TaggedFrame) (s : State) : (pushRxq e s).cfg1Len = s.cfg1Len := by unfold pushRxq; split <;> simp
@[simp] theorem pushRxq_cfg2Len (e : TaggedFrame) (s : State) : (pushRxq e s).cfg2Len = s.cfg2Len := by unfold pushRxq; split <;> simp
@[simp] theorem pushRxq_freqLen (e : TaggedFrame) (s : State) : (pushRxq e s).freqLen = s.freqLen := by unfold pushRxq; split <;> simp
@[simp] theorem pushRxq_res0 (e : TaggedFrame) (s : State) : (pushRxq e s).res0 = s.res0 := by unfold pushRxq; split <;> simp
@[simp] theorem pushRxq_res1 (e : TaggedFrame) (s : State) : (pushRxq e s).res1 = s.res1 := by unfold pushRxq; split <;> simp
@[simp] theorem pushRxq_mem (e : TaggedFrame) (s : State) : (pushRxq e s).mem = s.mem := by unfold pushRxq; split <;> simp
@[simp] theorem pushRxq_serialOut (e : TaggedFrame) (s : State) : (pushRxq e s).serialOut = s.serialOut := by unfold pushRxq; split <;> simp
@[simp] theorem pushRxq_portOut (e : TaggedFrame) (s : State) : (pushRxq e s).portOut = s.portOut := by unfold pushRxq; split <;> simp
@[simp] theorem pushRxq_inputs (e : TaggedFrame) (s : State) : (pushRxq e s).inputs = s.inputs := by unfold pushRxq; split <;> simp

/-! ### `pushTxq` -/

@[simp] theorem pushTxq_cfg (e : TxEntry) (s : State) : (pushTxq e s).cfg = s.cfg := by unfold pushTxq; split <;> simp
@[simp] theorem pushTxq_rx (e : TxEntry) (s : State) : (pushTxq e s).rx = s.rx := by unfold pushTxq; split <;> simp
@[simp] theorem pushTxq_tx (e : TxEntry) (s : State) : (pushTxq e s).tx = s.tx := by unfold pushTxq; split <;> simp
@[simp] theorem pushTxq_parser (e : TxEntry) (s : State) : (pushTxq e s).parser = s.parser := by unfold pushTxq; split <;> simp
@[simp] theorem pushTxq_link (e : TxEntry) (s : State) : (pushTxq e s).link = s.link := by unfold pushTxq; split <;> simp
@[simp] theorem pushTxq_timers (e : TxEntry) (s : State) : (pushTxq e s).timers = s.timers := by unfold pushTxq; split <;> simp
@[simp] theorem pushTxq_rxq (e : TxEntry) (s : State) : (pushTxq e s).rxq = s.rxq := by unfold pushTxq; split <;> simp
@[simp] theorem pushTxq_plq (e : TxEntry) (s : State) : (pushTxq e s).plq = s.plq := by unfold pushTxq; split <;> simp
@[simp] theorem pushTxq_ctrl (e : TxEntry) (s : State) : (pushTxq e s).ctrl = s.ctrl := by unfold pushTxq; split <;> simp
@[simp] theorem pushTxq_cfg1Len (e : TxEntry) (s : State) : (pushTxq e s).cfg1Len = s.cfg1Len := by unfold pushTxq; split <;> simp
@[simp] theorem pushTxq_cfg2Len (e : TxEntry) (s : State) : (pushTxq e s).cfg2Len = s.cfg2Len := by unfold pushTxq; split <;> simp
@[simp] theorem pushTxq_freqLen (e : TxEntry) (s : State) : (pushTxq e s).freqLen = s.freqLen := by unfold pushTxq; split <;> simp
@[simp] theorem pushTxq_res0 (e : TxEntry) (s : State) : (pushTxq e s).res0 = s.res0 := by unfold pushTxq; split <;> simp
@[simp] theorem pushTxq_res1 (e : TxEntry) (s : State) : (pushTxq e s).res1 = s.res1 := by unfold pushTxq; split <;> simp
@[simp] theorem pushTxq_mem (e : TxEntry) (s : State) : (pushTxq e s).mem = s.mem := by unfold pushTxq; split <;> simp
@[simp] theorem pushTxq_serialOut (e : TxEntry) (s : State) : (pushTxq e s).serialOut = s.serialOut := by unfold pushTxq; split <;> simp
@[simp] theorem pushTxq_portOut (e : TxEntry) (s : State) : (pushTxq e s).portOut = s.portOut := by unfold pushTxq; split <;> simp
@[simp] theorem pushTxq_inputs (e : TxEntry) (s : State) : (pushTxq e s).inputs = s.inputs := by unfold pushTxq; split <;> simp

/-! ### `pushPlq` -/

@[simp] theorem pushPlq_cfg (r : PayloadRecord) (s : State) : (pushPlq r s).cfg = s.cfg := by unfold pushPlq; split <;> simp
@[simp] theorem pushPlq_rx (r : PayloadRecord) (s : State) : (pushPlq r s).rx = s.rx := by unfold pushPlq; split <;> simp
@[simp] theorem pushPlq_tx (r : PayloadRecord) (s : State) : (pushPlq r s).tx = s.tx := by unfold pushPlq; split <;> simp
@[simp] theorem pushPlq_parser (r : PayloadRecord) (s : State) : (pushPlq r s).parser = s.parser := by unfold pushPlq; split <;> simp
@[simp] theorem pushPlq_link (r : PayloadRecord) (s : State) : (pushPlq r s).link = s.link := by unfold pushPlq; split <;> simp
@[simp] theorem pushPlq_timers (r : PayloadRecord) (s : State) : (pushPlq r s).timers = s.timers := by unfold pushPlq; split <;> simp
@[simp] theorem pushPlq_rxq (r : PayloadRecord) (s : State) : (pushPlq r s).rxq = s.rxq := by unfold pushPlq; split <;> simp
@[simp] theorem pushPlq_txq (r : PayloadRecord) (s : State) : (pushPlq r s).txq = s.txq := by unfold pushPlq; split <;> simp
@[simp] theorem pushPlq_ctrl (r : PayloadRecord) (s : State) : (pushPlq r s).ctrl = s.ctrl := by unfold pushPlq; split <;> simp
@[simp] theorem pushPlq_cfg1Len (r : PayloadRecord) (s : State) : (pushPlq r s).cfg1Len = s.cfg1Len := by unfold pushPlq; split <;> simp
@[simp] theorem pushPlq_cfg2Len (r : PayloadRecord) (s : State) : (pushPlq r s).cfg2Len = s.cfg2Len := by unfold pushPlq; split <;> simp
@[simp] theorem pushPlq_freqLen (r : PayloadRecord) (s : State) : (pushPlq r s).freqLen = s.freqLen := by unfold pushPlq; split <;> simp
@[simp] theorem pushPlq_res0 (r : PayloadRecord) (s : State) : (pushPlq r s).res0 = s.res0 := by unfold pushPlq; split <;> simp
@[simp] theorem pushPlq_res1 (r : PayloadRecord) (s : State) : (pushPlq r s).res1 = s.res1 := by unfold pushPlq; split <;> simp
@[simp] theorem pushPlq_mem (r : PayloadRecord) (s : State) : (pushPlq r s).mem = s.mem := by unfold pushPlq; split <;> simp
@[simp] theorem pushPlq_serialOut (r : PayloadRecord) (s : State) : (pushPlq r s).serialOut = s.serialOut := by unfold pushPlq; split <;> simp
@[simp] theorem pushPlq_portOut (r : PayloadRecord) (s : State) : (pushPlq r s).portOut = s.portOut := by unfold pushPlq; split <;> simp
@[simp] theorem pushPlq_inputs (r : PayloadRecord) (s : State) : (pushPlq r s).inputs = s.inputs := by unfold pushPlq; split <;> simp

/-! ### `memWrite` -/

@[simp] theorem memWrite_cfg (sp : Byte) (off : Nat) (bytes : List Byte) (s : State) : (memWrite sp off bytes s).cfg = s.cfg := rfl
@[simp] theorem memWrite_rx (sp : Byte) (off : Nat) (bytes : List Byte) (s : State) : (memWrite sp off bytes s).rx = s.rx := rfl
@[simp] theorem memWrite_tx (sp : Byte) (off : Nat) (bytes : List Byte) (s : State) : (memWrite sp off bytes s).tx = s.tx := rfl
@[simp] theorem memWrite_parser (sp : Byte) (off : Nat) (bytes : List Byte) (s : State) : (memWrite sp off bytes s).parser = s.parser := rfl
@[simp] theorem memWrite_link (sp : Byte) (off : Nat) (bytes : List Byte) (s : State) : (memWrite sp off bytes s).link = s.link := rfl
@[simp] theorem memWrite_timers (sp : Byte) (off : Nat) (bytes : List Byte) (s : State) : (memWrite sp off bytes s).timers = s.timers := rfl
@[simp] theorem memWrite_rxq (sp : Byte) (off : Nat) (bytes : List Byte) (s : State) : (memWrite sp off bytes s).rxq = s.rxq := rfl
@[simp] theorem memWrite_txq (sp : Byte) (off : Nat) (bytes : List Byte) (s : State) : (memWrite sp off bytes s).txq = s.txq := rfl
@[simp] theorem memWrite_evq (sp : Byte) (off : Nat) (bytes : List Byte) (s : State) : (memWrite sp off bytes s).evq = s.evq := rfl
@[simp] theorem memWrite_plq (sp : Byte) (off : Nat) (bytes : List Byte) (s : State) : (memWrite sp off bytes s).plq = s.plq := rfl
@[simp] theorem memWrite_ctrl (sp : Byte) (off : Nat) (bytes : List Byte) (s : State) : (memWrite sp off bytes s).ctrl = s.ctrl := rfl
@[simp] theorem memWrite_err (sp : Byte) (off : Nat) (bytes : List Byte) (s : State) : (memWrite sp off bytes s).err = s.err := rfl
@[simp] theorem memWrite_cfg1Len (sp : Byte) (off : Nat) (bytes : List Byte) (s : State) : (memWrite sp off bytes s).cfg1Len = s.cfg1Len := rfl
@[simp] theorem memWrite_cfg2Len (sp : Byte) (off : Nat) (bytes : List Byte) (s : State) : (memWrite sp off bytes s).cfg2Len = s.cfg2Len := rfl
@[simp] theorem memWrite_freqLen (sp : Byte) (off : Nat) (bytes : List Byte) (s : State) : (memWrite sp off bytes s).freqLen = s.freqLen := rfl
@[simp] theorem memWrite_res0 (sp : Byte) (off : Nat) (bytes : List Byte) (s : State) : (memWrite sp off bytes s).res0 = s.res0 := rfl
@[simp] theorem memWrite_res1 (sp : Byte) (off : Nat) (bytes : List Byte) (s : State) : (memWrite sp off bytes s).res1 = s.res1 := rfl
@[simp] theorem memWrite_serialOut (sp : Byte) (off : Nat) (bytes : List Byte) (s : State) : (memWrite sp off bytes s).serialOut = s.serialOut := rfl
@[simp] theorem memWrite_portOut (sp : Byte) (off : Nat) (bytes : List Byte) (s : State) : (memWrite sp off bytes s).portOut = s.portOut := rfl
@[simp] theorem memWrite_inputs (sp : Byte) (off : Nat) (bytes : List Byte) (s : State) : (memWrite sp off bytes s).inputs = s.inputs := rfl
@[simp] theorem memWrite_mem (sp : Byte) (off : Nat) (bytes : List Byte) (s : State) : (memWrite sp off bytes s).mem = Memory.writeBytes s.mem (cellAddr sp off) bytes := rfl

/-! ### `putScrOut` -/

@[simp] theorem putScrOut_cfg {n : Nat} (v : BitVec n) (s : State) : (putScrOut v s).cfg = s.cfg := rfl
@[simp] theorem putScrOut_rx {n : Nat} (v : BitVec n) (s : State) : (putScrOut v s).rx = s.rx := rfl
@[simp] theorem putScrOut_tx {n : Nat} (v : BitVec n) (s : State) : (putScrOut v s).tx = s.tx := rfl
@[simp] theorem putScrOut_parser {n : Nat} (v : BitVec n) (s : State) : (putScrOut v s).parser = s.parser := rfl
@[simp] theorem putScrOut_link {n : Nat} (v : BitVec n) (s : State) : (putScrOut v s).link = s.link := rfl
@[simp] theorem putScrOut_timers {n : Nat} (v : BitVec n) (s : State) : (putScrOut v s).timers = s.timers := rfl
@[simp] theorem putScrOut_rxq {n : Nat} (v : BitVec n) (s : State) : (putScrOut v s).rxq = s.rxq := rfl
@[simp] theorem putScrOut_txq {n : Nat} (v : BitVec n) (s : State) : (putScrOut v s).txq = s.txq := rfl
@[simp] theorem putScrOut_evq {n : Nat} (v : BitVec n) (s : State) : (putScrOut v s).evq = s.evq := rfl
@[simp] theorem putScrOut_plq {n : Nat} (v : BitVec n) (s : State) : (putScrOut v s).plq = s.plq := rfl
@[simp] theorem putScrOut_ctrl {n : Nat} (v : BitVec n) (s : State) : (putScrOut v s).ctrl = s.ctrl := rfl
@[simp] theorem putScrOut_err {n : Nat} (v : BitVec n) (s : State) : (putScrOut v s).err = s.err := rfl
@[simp] theorem putScrOut_cfg1Len {n : Nat} (v : BitVec n) (s : State) : (putScrOut v s).cfg1Len = s.cfg1Len := rfl
@[simp] theorem putScrOut_cfg2Len {n : Nat} (v : BitVec n) (s : State) : (putScrOut v s).cfg2Len = s.cfg2Len := rfl
@[simp] theorem putScrOut_freqLen {n : Nat} (v : BitVec n) (s : State) : (putScrOut v s).freqLen = s.freqLen := rfl
@[simp] theorem putScrOut_res0 {n : Nat} (v : BitVec n) (s : State) : (putScrOut v s).res0 = s.res0 := rfl
@[simp] theorem putScrOut_res1 {n : Nat} (v : BitVec n) (s : State) : (putScrOut v s).res1 = s.res1 := rfl
@[simp] theorem putScrOut_serialOut {n : Nat} (v : BitVec n) (s : State) : (putScrOut v s).serialOut = s.serialOut := rfl
@[simp] theorem putScrOut_portOut {n : Nat} (v : BitVec n) (s : State) : (putScrOut v s).portOut = s.portOut := rfl
@[simp] theorem putScrOut_inputs {n : Nat} (v : BitVec n) (s : State) : (putScrOut v s).inputs = s.inputs := rfl
@[simp] theorem putScrOut_mem {n : Nat} (v : BitVec n) (s : State) : (putScrOut v s).mem = Memory.writeBytes s.mem (cellAddr spScrOut 0) (bytesOfSeq v) := rfl

/-! ### `putRes0` -/

@[simp] theorem putRes0_cfg (v : Word) (s : State) : (putRes0 v s).cfg = s.cfg := rfl
@[simp] theorem putRes0_rx (v : Word) (s : State) : (putRes0 v s).rx = s.rx := rfl
@[simp] theorem putRes0_tx (v : Word) (s : State) : (putRes0 v s).tx = s.tx := rfl
@[simp] theorem putRes0_parser (v : Word) (s : State) : (putRes0 v s).parser = s.parser := rfl
@[simp] theorem putRes0_link (v : Word) (s : State) : (putRes0 v s).link = s.link := rfl
@[simp] theorem putRes0_timers (v : Word) (s : State) : (putRes0 v s).timers = s.timers := rfl
@[simp] theorem putRes0_rxq (v : Word) (s : State) : (putRes0 v s).rxq = s.rxq := rfl
@[simp] theorem putRes0_txq (v : Word) (s : State) : (putRes0 v s).txq = s.txq := rfl
@[simp] theorem putRes0_evq (v : Word) (s : State) : (putRes0 v s).evq = s.evq := rfl
@[simp] theorem putRes0_plq (v : Word) (s : State) : (putRes0 v s).plq = s.plq := rfl
@[simp] theorem putRes0_ctrl (v : Word) (s : State) : (putRes0 v s).ctrl = s.ctrl := rfl
@[simp] theorem putRes0_err (v : Word) (s : State) : (putRes0 v s).err = s.err := rfl
@[simp] theorem putRes0_cfg1Len (v : Word) (s : State) : (putRes0 v s).cfg1Len = s.cfg1Len := rfl
@[simp] theorem putRes0_cfg2Len (v : Word) (s : State) : (putRes0 v s).cfg2Len = s.cfg2Len := rfl
@[simp] theorem putRes0_freqLen (v : Word) (s : State) : (putRes0 v s).freqLen = s.freqLen := rfl
@[simp] theorem putRes0_res1 (v : Word) (s : State) : (putRes0 v s).res1 = s.res1 := rfl
@[simp] theorem putRes0_mem (v : Word) (s : State) : (putRes0 v s).mem = s.mem := rfl
@[simp] theorem putRes0_serialOut (v : Word) (s : State) : (putRes0 v s).serialOut = s.serialOut := rfl
@[simp] theorem putRes0_portOut (v : Word) (s : State) : (putRes0 v s).portOut = s.portOut := rfl
@[simp] theorem putRes0_inputs (v : Word) (s : State) : (putRes0 v s).inputs = s.inputs := rfl
@[simp] theorem putRes0_res0 (v : Word) (s : State) : (putRes0 v s).res0 = v := rfl

/-! ### `putRes` -/

@[simp] theorem putRes_cfg (v w : Word) (s : State) : (putRes v w s).cfg = s.cfg := rfl
@[simp] theorem putRes_rx (v w : Word) (s : State) : (putRes v w s).rx = s.rx := rfl
@[simp] theorem putRes_tx (v w : Word) (s : State) : (putRes v w s).tx = s.tx := rfl
@[simp] theorem putRes_parser (v w : Word) (s : State) : (putRes v w s).parser = s.parser := rfl
@[simp] theorem putRes_link (v w : Word) (s : State) : (putRes v w s).link = s.link := rfl
@[simp] theorem putRes_timers (v w : Word) (s : State) : (putRes v w s).timers = s.timers := rfl
@[simp] theorem putRes_rxq (v w : Word) (s : State) : (putRes v w s).rxq = s.rxq := rfl
@[simp] theorem putRes_txq (v w : Word) (s : State) : (putRes v w s).txq = s.txq := rfl
@[simp] theorem putRes_evq (v w : Word) (s : State) : (putRes v w s).evq = s.evq := rfl
@[simp] theorem putRes_plq (v w : Word) (s : State) : (putRes v w s).plq = s.plq := rfl
@[simp] theorem putRes_ctrl (v w : Word) (s : State) : (putRes v w s).ctrl = s.ctrl := rfl
@[simp] theorem putRes_err (v w : Word) (s : State) : (putRes v w s).err = s.err := rfl
@[simp] theorem putRes_cfg1Len (v w : Word) (s : State) : (putRes v w s).cfg1Len = s.cfg1Len := rfl
@[simp] theorem putRes_cfg2Len (v w : Word) (s : State) : (putRes v w s).cfg2Len = s.cfg2Len := rfl
@[simp] theorem putRes_freqLen (v w : Word) (s : State) : (putRes v w s).freqLen = s.freqLen := rfl
@[simp] theorem putRes_mem (v w : Word) (s : State) : (putRes v w s).mem = s.mem := rfl
@[simp] theorem putRes_serialOut (v w : Word) (s : State) : (putRes v w s).serialOut = s.serialOut := rfl
@[simp] theorem putRes_portOut (v w : Word) (s : State) : (putRes v w s).portOut = s.portOut := rfl
@[simp] theorem putRes_inputs (v w : Word) (s : State) : (putRes v w s).inputs = s.inputs := rfl
@[simp] theorem putRes_res0 (v w : Word) (s : State) : (putRes v w s).res0 = v := rfl
@[simp] theorem putRes_res1 (v w : Word) (s : State) : (putRes v w s).res1 = w := rfl

/-! ### `answer` -/

@[simp] theorem answer_cfg (v : Word) (s : State) : (answer v s).cfg = s.cfg := rfl
@[simp] theorem answer_rx (v : Word) (s : State) : (answer v s).rx = s.rx := rfl
@[simp] theorem answer_tx (v : Word) (s : State) : (answer v s).tx = s.tx := rfl
@[simp] theorem answer_parser (v : Word) (s : State) : (answer v s).parser = s.parser := rfl
@[simp] theorem answer_link (v : Word) (s : State) : (answer v s).link = s.link := rfl
@[simp] theorem answer_timers (v : Word) (s : State) : (answer v s).timers = s.timers := rfl
@[simp] theorem answer_rxq (v : Word) (s : State) : (answer v s).rxq = s.rxq := rfl
@[simp] theorem answer_txq (v : Word) (s : State) : (answer v s).txq = s.txq := rfl
@[simp] theorem answer_evq (v : Word) (s : State) : (answer v s).evq = s.evq := rfl
@[simp] theorem answer_plq (v : Word) (s : State) : (answer v s).plq = s.plq := rfl
@[simp] theorem answer_ctrl (v : Word) (s : State) : (answer v s).ctrl = s.ctrl := rfl
@[simp] theorem answer_err (v : Word) (s : State) : (answer v s).err = s.err := rfl
@[simp] theorem answer_cfg1Len (v : Word) (s : State) : (answer v s).cfg1Len = s.cfg1Len := rfl
@[simp] theorem answer_cfg2Len (v : Word) (s : State) : (answer v s).cfg2Len = s.cfg2Len := rfl
@[simp] theorem answer_freqLen (v : Word) (s : State) : (answer v s).freqLen = s.freqLen := rfl
@[simp] theorem answer_res0 (v : Word) (s : State) : (answer v s).res0 = s.res0 := rfl
@[simp] theorem answer_res1 (v : Word) (s : State) : (answer v s).res1 = s.res1 := rfl
@[simp] theorem answer_mem (v : Word) (s : State) : (answer v s).mem = s.mem := rfl
@[simp] theorem answer_serialOut (v : Word) (s : State) : (answer v s).serialOut = s.serialOut := rfl
@[simp] theorem answer_inputs (v : Word) (s : State) : (answer v s).inputs = s.inputs := rfl
@[simp] theorem answer_portOut (v : Word) (s : State) : (answer v s).portOut = v := rfl

/-! ### `sendFrame` -/

@[simp] theorem sendFrame_cfg (t : Byte) (p : List Byte) (s : State) : (sendFrame t p s).cfg = s.cfg := rfl
@[simp] theorem sendFrame_rx (t : Byte) (p : List Byte) (s : State) : (sendFrame t p s).rx = s.rx := rfl
@[simp] theorem sendFrame_tx (t : Byte) (p : List Byte) (s : State) : (sendFrame t p s).tx = s.tx := rfl
@[simp] theorem sendFrame_parser (t : Byte) (p : List Byte) (s : State) : (sendFrame t p s).parser = s.parser := rfl
@[simp] theorem sendFrame_link (t : Byte) (p : List Byte) (s : State) : (sendFrame t p s).link = s.link := rfl
@[simp] theorem sendFrame_timers (t : Byte) (p : List Byte) (s : State) : (sendFrame t p s).timers = s.timers := rfl
@[simp] theorem sendFrame_rxq (t : Byte) (p : List Byte) (s : State) : (sendFrame t p s).rxq = s.rxq := rfl
@[simp] theorem sendFrame_txq (t : Byte) (p : List Byte) (s : State) : (sendFrame t p s).txq = s.txq := rfl
@[simp] theorem sendFrame_evq (t : Byte) (p : List Byte) (s : State) : (sendFrame t p s).evq = s.evq := rfl
@[simp] theorem sendFrame_plq (t : Byte) (p : List Byte) (s : State) : (sendFrame t p s).plq = s.plq := rfl
@[simp] theorem sendFrame_ctrl (t : Byte) (p : List Byte) (s : State) : (sendFrame t p s).ctrl = s.ctrl := rfl
@[simp] theorem sendFrame_err (t : Byte) (p : List Byte) (s : State) : (sendFrame t p s).err = s.err := rfl
@[simp] theorem sendFrame_cfg1Len (t : Byte) (p : List Byte) (s : State) : (sendFrame t p s).cfg1Len = s.cfg1Len := rfl
@[simp] theorem sendFrame_cfg2Len (t : Byte) (p : List Byte) (s : State) : (sendFrame t p s).cfg2Len = s.cfg2Len := rfl
@[simp] theorem sendFrame_freqLen (t : Byte) (p : List Byte) (s : State) : (sendFrame t p s).freqLen = s.freqLen := rfl
@[simp] theorem sendFrame_res0 (t : Byte) (p : List Byte) (s : State) : (sendFrame t p s).res0 = s.res0 := rfl
@[simp] theorem sendFrame_res1 (t : Byte) (p : List Byte) (s : State) : (sendFrame t p s).res1 = s.res1 := rfl
@[simp] theorem sendFrame_mem (t : Byte) (p : List Byte) (s : State) : (sendFrame t p s).mem = s.mem := rfl
@[simp] theorem sendFrame_portOut (t : Byte) (p : List Byte) (s : State) : (sendFrame t p s).portOut = s.portOut := rfl
@[simp] theorem sendFrame_inputs (t : Byte) (p : List Byte) (s : State) : (sendFrame t p s).inputs = s.inputs := rfl
@[simp] theorem sendFrame_serialOut (t : Byte) (p : List Byte) (s : State) : (sendFrame t p s).serialOut = s.serialOut ++ serFrame t p s.cfg.serial := rfl

/-! ### `closeLink` -/

@[simp] theorem closeLink_cfg (s : State) : (closeLink s).cfg = s.cfg := rfl
@[simp] theorem closeLink_rx (s : State) : (closeLink s).rx = s.rx := rfl
@[simp] theorem closeLink_tx (s : State) : (closeLink s).tx = s.tx := rfl
@[simp] theorem closeLink_rxq (s : State) : (closeLink s).rxq = s.rxq := rfl
@[simp] theorem closeLink_evq (s : State) : (closeLink s).evq = s.evq := rfl
@[simp] theorem closeLink_plq (s : State) : (closeLink s).plq = s.plq := rfl
@[simp] theorem closeLink_ctrl (s : State) : (closeLink s).ctrl = s.ctrl := rfl
@[simp] theorem closeLink_err (s : State) : (closeLink s).err = s.err := rfl
@[simp] theorem closeLink_cfg1Len (s : State) : (closeLink s).cfg1Len = s.cfg1Len := rfl
@[simp] theorem closeLink_cfg2Len (s : State) : (closeLink s).cfg2Len = s.cfg2Len := rfl
@[simp] theorem closeLink_freqLen (s : State) : (closeLink s).freqLen = s.freqLen := rfl
@[simp] theorem closeLink_res0 (s : State) : (closeLink s).res0 = s.res0 := rfl
@[simp] theorem closeLink_res1 (s : State) : (closeLink s).res1 = s.res1 := rfl
@[simp] theorem closeLink_mem (s : State) : (closeLink s).mem = s.mem := rfl
@[simp] theorem closeLink_serialOut (s : State) : (closeLink s).serialOut = s.serialOut := rfl
@[simp] theorem closeLink_portOut (s : State) : (closeLink s).portOut = s.portOut := rfl
@[simp] theorem closeLink_inputs (s : State) : (closeLink s).inputs = s.inputs := rfl
@[simp] theorem closeLink_parser (s : State) : (closeLink s).parser = { s.parser with pos := .start, off := 0#16, len := 0#16, type := 0#8 } := rfl
@[simp] theorem closeLink_link (s : State) : (closeLink s).link = { s.link with portOpen := false, pendValid := false, pendCmd := 0#8, tries := 0#8, protoVersion := 0#8, space := 0#8 } := rfl
@[simp] theorem closeLink_txq (s : State) : (closeLink s).txq = [] := rfl

/-! ### `enterBackoff` -/

@[simp] theorem enterBackoff_cfg (s : State) : (enterBackoff s).cfg = s.cfg := rfl
@[simp] theorem enterBackoff_rx (s : State) : (enterBackoff s).rx = s.rx := rfl
@[simp] theorem enterBackoff_tx (s : State) : (enterBackoff s).tx = s.tx := rfl
@[simp] theorem enterBackoff_parser (s : State) : (enterBackoff s).parser = s.parser := rfl
@[simp] theorem enterBackoff_rxq (s : State) : (enterBackoff s).rxq = s.rxq := rfl
@[simp] theorem enterBackoff_txq (s : State) : (enterBackoff s).txq = s.txq := rfl
@[simp] theorem enterBackoff_evq (s : State) : (enterBackoff s).evq = s.evq := rfl
@[simp] theorem enterBackoff_plq (s : State) : (enterBackoff s).plq = s.plq := rfl
@[simp] theorem enterBackoff_ctrl (s : State) : (enterBackoff s).ctrl = s.ctrl := rfl
@[simp] theorem enterBackoff_err (s : State) : (enterBackoff s).err = s.err := rfl
@[simp] theorem enterBackoff_cfg1Len (s : State) : (enterBackoff s).cfg1Len = s.cfg1Len := rfl
@[simp] theorem enterBackoff_cfg2Len (s : State) : (enterBackoff s).cfg2Len = s.cfg2Len := rfl
@[simp] theorem enterBackoff_freqLen (s : State) : (enterBackoff s).freqLen = s.freqLen := rfl
@[simp] theorem enterBackoff_res0 (s : State) : (enterBackoff s).res0 = s.res0 := rfl
@[simp] theorem enterBackoff_res1 (s : State) : (enterBackoff s).res1 = s.res1 := rfl
@[simp] theorem enterBackoff_mem (s : State) : (enterBackoff s).mem = s.mem := rfl
@[simp] theorem enterBackoff_serialOut (s : State) : (enterBackoff s).serialOut = s.serialOut := rfl
@[simp] theorem enterBackoff_portOut (s : State) : (enterBackoff s).portOut = s.portOut := rfl
@[simp] theorem enterBackoff_inputs (s : State) : (enterBackoff s).inputs = s.inputs := rfl
@[simp] theorem enterBackoff_link (s : State) : (enterBackoff s).link = { s.link with state := .backoff } := rfl
@[simp] theorem enterBackoff_timers (s : State) : (enterBackoff s).timers = { s.timers with backoff := timerStart } := rfl

/-! ### `awaitReply` -/

@[simp] theorem awaitReply_cfg (c : Byte) (s : State) : (awaitReply c s).cfg = s.cfg := rfl
@[simp] theorem awaitReply_rx (c : Byte) (s : State) : (awaitReply c s).rx = s.rx := rfl
@[simp] theorem awaitReply_tx (c : Byte) (s : State) : (awaitReply c s).tx = s.tx := rfl
@[simp] theorem awaitReply_parser (c : Byte) (s : State) : (awaitReply c s).parser = s.parser := rfl
@[simp] theorem awaitReply_rxq (c : Byte) (s : State) : (awaitReply c s).rxq = s.rxq := rfl
@[simp] theorem awaitReply_txq (c : Byte) (s : State) : (awaitReply c s).txq = s.txq := rfl
@[simp] theorem awaitReply_evq (c : Byte) (s : State) : (awaitReply c s).evq = s.evq := rfl
@[simp] theorem awaitReply_plq (c : Byte) (s : State) : (awaitReply c s).plq = s.plq := rfl
@[simp] theorem awaitReply_ctrl (c : Byte) (s : State) : (awaitReply c s).ctrl = s.ctrl := rfl
@[simp] theorem awaitReply_err (c : Byte) (s : State) : (awaitReply c s).err = s.err := rfl
@[simp] theorem awaitReply_cfg1Len (c : Byte) (s : State) : (awaitReply c s).cfg1Len = s.cfg1Len := rfl
@[simp] theorem awaitReply_cfg2Len (c : Byte) (s : State) : (awaitReply c s).cfg2Len = s.cfg2Len := rfl
@[simp] theorem awaitReply_freqLen (c : Byte) (s : State) : (awaitReply c s).freqLen = s.freqLen := rfl
@[simp] theorem awaitReply_res0 (c : Byte) (s : State) : (awaitReply c s).res0 = s.res0 := rfl
@[simp] theorem awaitReply_res1 (c : Byte) (s : State) : (awaitReply c s).res1 = s.res1 := rfl
@[simp] theorem awaitReply_mem (c : Byte) (s : State) : (awaitReply c s).mem = s.mem := rfl
@[simp] theorem awaitReply_serialOut (c : Byte) (s : State) : (awaitReply c s).serialOut = s.serialOut := rfl
@[simp] theorem awaitReply_portOut (c : Byte) (s : State) : (awaitReply c s).portOut = s.portOut := rfl
@[simp] theorem awaitReply_inputs (c : Byte) (s : State) : (awaitReply c s).inputs = s.inputs := rfl
@[simp] theorem awaitReply_link (c : Byte) (s : State) : (awaitReply c s).link = { s.link with pendValid := true, pendCmd := c, tries := 1#8 } := rfl
@[simp] theorem awaitReply_timers (c : Byte) (s : State) : (awaitReply c s).timers = { s.timers with resp := timerStart } := rfl

/-! ### `endReply` -/

@[simp] theorem endReply_cfg (s : State) : (endReply s).cfg = s.cfg := rfl
@[simp] theorem endReply_rx (s : State) : (endReply s).rx = s.rx := rfl
@[simp] theorem endReply_tx (s : State) : (endReply s).tx = s.tx := rfl
@[simp] theorem endReply_parser (s : State) : (endReply s).parser = s.parser := rfl
@[simp] theorem endReply_rxq (s : State) : (endReply s).rxq = s.rxq := rfl
@[simp] theorem endReply_txq (s : State) : (endReply s).txq = s.txq := rfl
@[simp] theorem endReply_evq (s : State) : (endReply s).evq = s.evq := rfl
@[simp] theorem endReply_plq (s : State) : (endReply s).plq = s.plq := rfl
@[simp] theorem endReply_ctrl (s : State) : (endReply s).ctrl = s.ctrl := rfl
@[simp] theorem endReply_err (s : State) : (endReply s).err = s.err := rfl
@[simp] theorem endReply_cfg1Len (s : State) : (endReply s).cfg1Len = s.cfg1Len := rfl
@[simp] theorem endReply_cfg2Len (s : State) : (endReply s).cfg2Len = s.cfg2Len := rfl
@[simp] theorem endReply_freqLen (s : State) : (endReply s).freqLen = s.freqLen := rfl
@[simp] theorem endReply_res0 (s : State) : (endReply s).res0 = s.res0 := rfl
@[simp] theorem endReply_res1 (s : State) : (endReply s).res1 = s.res1 := rfl
@[simp] theorem endReply_mem (s : State) : (endReply s).mem = s.mem := rfl
@[simp] theorem endReply_serialOut (s : State) : (endReply s).serialOut = s.serialOut := rfl
@[simp] theorem endReply_portOut (s : State) : (endReply s).portOut = s.portOut := rfl
@[simp] theorem endReply_inputs (s : State) : (endReply s).inputs = s.inputs := rfl
@[simp] theorem endReply_link (s : State) : (endReply s).link = { s.link with pendValid := false, tries := 0#8 } := rfl
@[simp] theorem endReply_timers (s : State) : (endReply s).timers = { s.timers with resp := timerStop s.timers.resp } := rfl

/-! ### `enterListening` -/

@[simp] theorem enterListening_cfg (s : State) : (enterListening s).cfg = s.cfg := rfl
@[simp] theorem enterListening_tx (s : State) : (enterListening s).tx = s.tx := rfl
@[simp] theorem enterListening_parser (s : State) : (enterListening s).parser = s.parser := rfl
@[simp] theorem enterListening_link (s : State) : (enterListening s).link = s.link := rfl
@[simp] theorem enterListening_timers (s : State) : (enterListening s).timers = s.timers := rfl
@[simp] theorem enterListening_rxq (s : State) : (enterListening s).rxq = s.rxq := rfl
@[simp] theorem enterListening_txq (s : State) : (enterListening s).txq = s.txq := rfl
@[simp] theorem enterListening_evq (s : State) : (enterListening s).evq = s.evq := rfl
@[simp] theorem enterListening_plq (s : State) : (enterListening s).plq = s.plq := rfl
@[simp] theorem enterListening_ctrl (s : State) : (enterListening s).ctrl = s.ctrl := rfl
@[simp] theorem enterListening_err (s : State) : (enterListening s).err = s.err := rfl
@[simp] theorem enterListening_cfg1Len (s : State) : (enterListening s).cfg1Len = s.cfg1Len := rfl
@[simp] theorem enterListening_cfg2Len (s : State) : (enterListening s).cfg2Len = s.cfg2Len := rfl
@[simp] theorem enterListening_freqLen (s : State) : (enterListening s).freqLen = s.freqLen := rfl
@[simp] theorem enterListening_res0 (s : State) : (enterListening s).res0 = s.res0 := rfl
@[simp] theorem enterListening_res1 (s : State) : (enterListening s).res1 = s.res1 := rfl
@[simp] theorem enterListening_mem (s : State) : (enterListening s).mem = s.mem := rfl
@[simp] theorem enterListening_serialOut (s : State) : (enterListening s).serialOut = s.serialOut := rfl
@[simp] theorem enterListening_portOut (s : State) : (enterListening s).portOut = s.portOut := rfl
@[simp] theorem enterListening_inputs (s : State) : (enterListening s).inputs = s.inputs := rfl
@[simp] theorem enterListening_rx (s : State) : (enterListening s).rx = { s.rx with state := .listening, primary := .empty, running := .empty } := rfl

/-! ### `parserAt` -/

@[simp] theorem parserAt_cfg (p : ParserPos) (s : State) : (parserAt p s).cfg = s.cfg := rfl
@[simp] theorem parserAt_rx (p : ParserPos) (s : State) : (parserAt p s).rx = s.rx := rfl
@[simp] theorem parserAt_tx (p : ParserPos) (s : State) : (parserAt p s).tx = s.tx := rfl
@[simp] theorem parserAt_link (p : ParserPos) (s : State) : (parserAt p s).link = s.link := rfl
@[simp] theorem parserAt_timers (p : ParserPos) (s : State) : (parserAt p s).timers = s.timers := rfl
@[simp] theorem parserAt_rxq (p : ParserPos) (s : State) : (parserAt p s).rxq = s.rxq := rfl
@[simp] theorem parserAt_txq (p : ParserPos) (s : State) : (parserAt p s).txq = s.txq := rfl
@[simp] theorem parserAt_evq (p : ParserPos) (s : State) : (parserAt p s).evq = s.evq := rfl
@[simp] theorem parserAt_plq (p : ParserPos) (s : State) : (parserAt p s).plq = s.plq := rfl
@[simp] theorem parserAt_ctrl (p : ParserPos) (s : State) : (parserAt p s).ctrl = s.ctrl := rfl
@[simp] theorem parserAt_err (p : ParserPos) (s : State) : (parserAt p s).err = s.err := rfl
@[simp] theorem parserAt_cfg1Len (p : ParserPos) (s : State) : (parserAt p s).cfg1Len = s.cfg1Len := rfl
@[simp] theorem parserAt_cfg2Len (p : ParserPos) (s : State) : (parserAt p s).cfg2Len = s.cfg2Len := rfl
@[simp] theorem parserAt_freqLen (p : ParserPos) (s : State) : (parserAt p s).freqLen = s.freqLen := rfl
@[simp] theorem parserAt_res0 (p : ParserPos) (s : State) : (parserAt p s).res0 = s.res0 := rfl
@[simp] theorem parserAt_res1 (p : ParserPos) (s : State) : (parserAt p s).res1 = s.res1 := rfl
@[simp] theorem parserAt_mem (p : ParserPos) (s : State) : (parserAt p s).mem = s.mem := rfl
@[simp] theorem parserAt_serialOut (p : ParserPos) (s : State) : (parserAt p s).serialOut = s.serialOut := rfl
@[simp] theorem parserAt_portOut (p : ParserPos) (s : State) : (parserAt p s).portOut = s.portOut := rfl
@[simp] theorem parserAt_inputs (p : ParserPos) (s : State) : (parserAt p s).inputs = s.inputs := rfl
@[simp] theorem parserAt_parser (p : ParserPos) (s : State) : (parserAt p s).parser = { s.parser with pos := p } := rfl

/-! ### `storeByte` -/

@[simp] theorem storeByte_cfg (b : Byte) (s : State) : (storeByte b s).cfg = s.cfg := rfl
@[simp] theorem storeByte_rx (b : Byte) (s : State) : (storeByte b s).rx = s.rx := rfl
@[simp] theorem storeByte_tx (b : Byte) (s : State) : (storeByte b s).tx = s.tx := rfl
@[simp] theorem storeByte_link (b : Byte) (s : State) : (storeByte b s).link = s.link := rfl
@[simp] theorem storeByte_timers (b : Byte) (s : State) : (storeByte b s).timers = s.timers := rfl
@[simp] theorem storeByte_rxq (b : Byte) (s : State) : (storeByte b s).rxq = s.rxq := rfl
@[simp] theorem storeByte_txq (b : Byte) (s : State) : (storeByte b s).txq = s.txq := rfl
@[simp] theorem storeByte_evq (b : Byte) (s : State) : (storeByte b s).evq = s.evq := rfl
@[simp] theorem storeByte_plq (b : Byte) (s : State) : (storeByte b s).plq = s.plq := rfl
@[simp] theorem storeByte_ctrl (b : Byte) (s : State) : (storeByte b s).ctrl = s.ctrl := rfl
@[simp] theorem storeByte_err (b : Byte) (s : State) : (storeByte b s).err = s.err := rfl
@[simp] theorem storeByte_cfg1Len (b : Byte) (s : State) : (storeByte b s).cfg1Len = s.cfg1Len := rfl
@[simp] theorem storeByte_cfg2Len (b : Byte) (s : State) : (storeByte b s).cfg2Len = s.cfg2Len := rfl
@[simp] theorem storeByte_freqLen (b : Byte) (s : State) : (storeByte b s).freqLen = s.freqLen := rfl
@[simp] theorem storeByte_res0 (b : Byte) (s : State) : (storeByte b s).res0 = s.res0 := rfl
@[simp] theorem storeByte_res1 (b : Byte) (s : State) : (storeByte b s).res1 = s.res1 := rfl
@[simp] theorem storeByte_mem (b : Byte) (s : State) : (storeByte b s).mem = s.mem := rfl
@[simp] theorem storeByte_serialOut (b : Byte) (s : State) : (storeByte b s).serialOut = s.serialOut := rfl
@[simp] theorem storeByte_portOut (b : Byte) (s : State) : (storeByte b s).portOut = s.portOut := rfl
@[simp] theorem storeByte_inputs (b : Byte) (s : State) : (storeByte b s).inputs = s.inputs := rfl

/-! ### `advanceTimers` -/

@[simp] theorem advanceTimers_cfg (dt : Nat) (s : State) : (advanceTimers dt s).cfg = s.cfg := rfl
@[simp] theorem advanceTimers_rx (dt : Nat) (s : State) : (advanceTimers dt s).rx = s.rx := rfl
@[simp] theorem advanceTimers_tx (dt : Nat) (s : State) : (advanceTimers dt s).tx = s.tx := rfl
@[simp] theorem advanceTimers_parser (dt : Nat) (s : State) : (advanceTimers dt s).parser = s.parser := rfl
@[simp] theorem advanceTimers_link (dt : Nat) (s : State) : (advanceTimers dt s).link = s.link := rfl
@[simp] theorem advanceTimers_rxq (dt : Nat) (s : State) : (advanceTimers dt s).rxq = s.rxq := rfl
@[simp] theorem advanceTimers_txq (dt : Nat) (s : State) : (advanceTimers dt s).txq = s.txq := rfl
@[simp] theorem advanceTimers_evq (dt : Nat) (s : State) : (advanceTimers dt s).evq = s.evq := rfl
@[simp] theorem advanceTimers_plq (dt : Nat) (s : State) : (advanceTimers dt s).plq = s.plq := rfl
@[simp] theorem advanceTimers_ctrl (dt : Nat) (s : State) : (advanceTimers dt s).ctrl = s.ctrl := rfl
@[simp] theorem advanceTimers_err (dt : Nat) (s : State) : (advanceTimers dt s).err = s.err := rfl
@[simp] theorem advanceTimers_cfg1Len (dt : Nat) (s : State) : (advanceTimers dt s).cfg1Len = s.cfg1Len := rfl
@[simp] theorem advanceTimers_cfg2Len (dt : Nat) (s : State) : (advanceTimers dt s).cfg2Len = s.cfg2Len := rfl
@[simp] theorem advanceTimers_freqLen (dt : Nat) (s : State) : (advanceTimers dt s).freqLen = s.freqLen := rfl
@[simp] theorem advanceTimers_res0 (dt : Nat) (s : State) : (advanceTimers dt s).res0 = s.res0 := rfl
@[simp] theorem advanceTimers_res1 (dt : Nat) (s : State) : (advanceTimers dt s).res1 = s.res1 := rfl
@[simp] theorem advanceTimers_mem (dt : Nat) (s : State) : (advanceTimers dt s).mem = s.mem := rfl
@[simp] theorem advanceTimers_serialOut (dt : Nat) (s : State) : (advanceTimers dt s).serialOut = s.serialOut := rfl
@[simp] theorem advanceTimers_portOut (dt : Nat) (s : State) : (advanceTimers dt s).portOut = s.portOut := rfl
@[simp] theorem advanceTimers_inputs (dt : Nat) (s : State) : (advanceTimers dt s).inputs = s.inputs := rfl

/-! ### `openFail` -/

@[simp] theorem openFail_cfg (k : ErrCode) (s : State) : (openFail k s).cfg = s.cfg := by unfold openFail; dsimp only; split <;> simp
@[simp] theorem openFail_rx (k : ErrCode) (s : State) : (openFail k s).rx = s.rx := by unfold openFail; dsimp only; split <;> simp
@[simp] theorem openFail_tx (k : ErrCode) (s : State) : (openFail k s).tx = s.tx := by unfold openFail; dsimp only; split <;> simp
@[simp] theorem openFail_rxq (k : ErrCode) (s : State) : (openFail k s).rxq = s.rxq := by unfold openFail; dsimp only; split <;> simp
@[simp] theorem openFail_plq (k : ErrCode) (s : State) : (openFail k s).plq = s.plq := by unfold openFail; dsimp only; split <;> simp
@[simp] theorem openFail_ctrl (k : ErrCode) (s : State) : (openFail k s).ctrl = s.ctrl := by unfold openFail; dsimp only; split <;> simp
@[simp] theorem openFail_cfg1Len (k : ErrCode) (s : State) : (openFail k s).cfg1Len = s.cfg1Len := by unfold openFail; dsimp only; split <;> simp
@[simp] theorem openFail_cfg2Len (k : ErrCode) (s : State) : (openFail k s).cfg2Len = s.cfg2Len := by unfold openFail; dsimp only; split <;> simp
@[simp] theorem openFail_freqLen (k : ErrCode) (s : State) : (openFail k s).freqLen = s.freqLen := by unfold openFail; dsimp only; split <;> simp
@[simp] theorem openFail_res0 (k : ErrCode) (s : State) : (openFail k s).res0 = s.res0 := by unfold openFail; dsimp only; split <;> simp
@[simp] theorem openFail_res1 (k : ErrCode) (s : State) : (openFail k s).res1 = s.res1 := by unfold openFail; dsimp only; split <;> simp
@[simp] theorem openFail_mem (k : ErrCode) (s : State) : (openFail k s).mem = s.mem := by unfold openFail; dsimp only; split <;> simp
@[simp] theorem openFail_serialOut (k : ErrCode) (s : State) : (openFail k s).serialOut = s.serialOut := by unfold openFail; dsimp only; split <;> simp
@[simp] theorem openFail_portOut (k : ErrCode) (s : State) : (openFail k s).portOut = s.portOut := by unfold openFail; dsimp only; split <;> simp
@[simp] theorem openFail_inputs (k : ErrCode) (s : State) : (openFail k s).inputs = s.inputs := by unfold openFail; dsimp only; split <;> simp

/-! ### `callEnd` -/

@[simp] theorem callEnd_cfg (r : EndReason) (s : State) : (callEnd r s).cfg = s.cfg := by simp [callEnd]
@[simp] theorem callEnd_tx (r : EndReason) (s : State) : (callEnd r s).tx = s.tx := by simp [callEnd]
@[simp] theorem callEnd_parser (r : EndReason) (s : State) : (callEnd r s).parser = s.parser := by simp [callEnd]
@[simp] theorem callEnd_link (r : EndReason) (s : State) : (callEnd r s).link = s.link := by simp [callEnd]
@[simp] theorem callEnd_timers (r : EndReason) (s : State) : (callEnd r s).timers = s.timers := by simp [callEnd]
@[simp] theorem callEnd_rxq (r : EndReason) (s : State) : (callEnd r s).rxq = s.rxq := by simp [callEnd]
@[simp] theorem callEnd_txq (r : EndReason) (s : State) : (callEnd r s).txq = s.txq := by simp [callEnd]
@[simp] theorem callEnd_plq (r : EndReason) (s : State) : (callEnd r s).plq = s.plq := by simp [callEnd]
@[simp] theorem callEnd_ctrl (r : EndReason) (s : State) : (callEnd r s).ctrl = s.ctrl := by simp [callEnd]
@[simp] theorem callEnd_cfg1Len (r : EndReason) (s : State) : (callEnd r s).cfg1Len = s.cfg1Len := by simp [callEnd]
@[simp] theorem callEnd_cfg2Len (r : EndReason) (s : State) : (callEnd r s).cfg2Len = s.cfg2Len := by simp [callEnd]
@[simp] theorem callEnd_freqLen (r : EndReason) (s : State) : (callEnd r s).freqLen = s.freqLen := by simp [callEnd]
@[simp] theorem callEnd_res0 (r : EndReason) (s : State) : (callEnd r s).res0 = s.res0 := by simp [callEnd]
@[simp] theorem callEnd_res1 (r : EndReason) (s : State) : (callEnd r s).res1 = s.res1 := by simp [callEnd]
@[simp] theorem callEnd_mem (r : EndReason) (s : State) : (callEnd r s).mem = s.mem := by simp [callEnd]
@[simp] theorem callEnd_serialOut (r : EndReason) (s : State) : (callEnd r s).serialOut = s.serialOut := by simp [callEnd]
@[simp] theorem callEnd_portOut (r : EndReason) (s : State) : (callEnd r s).portOut = s.portOut := by simp [callEnd]
@[simp] theorem callEnd_inputs (r : EndReason) (s : State) : (callEnd r s).inputs = s.inputs := by simp [callEnd]
@[simp] theorem callEnd_rx (r : EndReason) (s : State) :
    (callEnd r s).rx = { s.rx with state := .listening, primary := .empty, running := .empty } := by simp [callEnd]

/-! ### Reset -/

@[simp] theorem reset_cfg : State.reset.cfg = Params.illustrative := rfl
@[simp] theorem resetStep_cfg (s : State) : (resetStep s).cfg = s.cfg := rfl
@[simp] theorem resetStep_inputs (s : State) : (resetStep s).inputs = s.inputs := rfl

end Sys2Proof.Machine
end

