-- ==== Sys2Proof/Laws/Memory.lean ====
section
/-! SUPPORT. The memory: a read after a write, and the canonical form that every memory operation keeps. -/

namespace Sys2Proof.Machine

/-! ### Reads after writes -/

@[simp] theorem Memory.read_nil (a : Nat) : Memory.read [] a = 0#8 := rfl

theorem Memory.read_cons (b : Nat) (v : Byte) (m : List Host.Cell) (a : Nat) :
    Memory.read ((b, v) :: m) a = if a = b then v else Memory.read m a := rfl

theorem Memory.read_erase (m : List Host.Cell) (a x : Nat) :
    Memory.read (Memory.erase a m) x = if x = a then 0#8 else Memory.read m x := by
  induction m with
  | nil => simp [Memory.erase]
  | cons c m ih =>
    obtain ⟨b, v⟩ := c
    simp only [Memory.erase] at ih
    by_cases hb : b = a
    · subst hb
      simp only [Memory.erase, List.filter_cons, bne_self_eq_false, Bool.false_eq_true, if_false]
      rw [ih, Memory.read_cons]
      split <;> simp_all
    · have : (b != a) = true := by simpa using hb
      simp only [Memory.erase, List.filter_cons, this, if_true, Memory.read_cons]
      rw [ih]
      by_cases hx : x = b
      · subst hx; simp [hb]
      · simp [hx]

theorem Memory.read_insert (m : List Host.Cell) (a x : Nat) (v : Byte)
    (h : ∀ c ∈ m, c.1 ≠ a) :
    Memory.read (Memory.insert a v m) x = if x = a then v else Memory.read m x := by
  induction m with
  | nil => simp [Memory.insert, Memory.read_cons]
  | cons c m ih =>
    obtain ⟨b, w⟩ := c
    have hb : b ≠ a := h (b, w) (by simp)
    have ih := ih fun c hc => h c (by simp [hc])
    unfold Memory.insert
    split
    · simp [Memory.read_cons]
    · rw [Memory.read_cons, ih, Memory.read_cons]
      by_cases hx : x = b
      · subst hx; simp [hb]
      · simp [hx]

theorem Memory.erase_ne (m : List Host.Cell) (a : Nat) : ∀ c ∈ Memory.erase a m, c.1 ≠ a := by
  simp [Memory.erase]

/-- A byte read after a write: the byte written at its address, what was there before elsewhere. -/
theorem Memory.read_write (m : List Host.Cell) (a x : Nat) (v : Byte) :
    Memory.read (Memory.write m a v) x = if x = a then v else Memory.read m x := by
  unfold Memory.write
  split
  · next h => rw [Memory.read_erase, h]
  · rw [Memory.read_insert _ _ _ _ (Memory.erase_ne m a), Memory.read_erase]
    split <;> rfl

/-- A byte read after several were written at rising addresses. -/
theorem Memory.read_writeBytes (bytes : List Byte) (m : List Host.Cell) (a x : Nat) :
    Memory.read (Memory.writeBytes m a bytes) x =
      if a ≤ x ∧ x < a + bytes.length then bytes.getD (x - a) 0#8 else Memory.read m x := by
  induction bytes generalizing m a with
  | nil =>
    have : ¬(a ≤ x ∧ x < a + ([] : List Byte).length) := by simp
    rw [if_neg this]; rfl
  | cons v rest ih =>
    rw [Memory.writeBytes, ih, Memory.read_write]
    by_cases h : x = a
    · subst h
      have : ¬(x + 1 ≤ x ∧ x < x + 1 + rest.length) := by omega
      simp
    · by_cases h2 : a + 1 ≤ x ∧ x < a + 1 + rest.length
      · have h3 : a ≤ x ∧ x < a + (v :: rest).length := by simp; omega
        rw [if_pos h2, if_pos h3]
        obtain ⟨k, rfl⟩ : ∃ k, x = a + 1 + k := ⟨x - (a + 1), by omega⟩
        have e1 : a + 1 + k - (a + 1) = k := by omega
        have e2 : a + 1 + k - a = k + 1 := by omega
        rw [e1, e2, List.getD_cons_succ]
      · have h3 : ¬(a ≤ x ∧ x < a + (v :: rest).length) := by simp; omega
        rw [if_neg h2, if_neg h3, if_neg h]

/-! ### The canonical form -/

theorem Memory.wf_nil : Memory.wf [] := by simp [Memory.wf]

theorem Memory.wf_erase (m : List Host.Cell) (a : Nat) (h : Memory.wf m) :
    Memory.wf (Memory.erase a m) :=
  ⟨h.1.filter _, fun c hc => h.2 c (List.mem_of_mem_filter hc)⟩

theorem Memory.mem_insert (m : List Host.Cell) (a : Nat) (v : Byte) (c : Host.Cell) :
    c ∈ Memory.insert a v m ↔ c = (a, v) ∨ c ∈ m := by
  induction m with
  | nil => simp [Memory.insert]
  | cons d m ih =>
    unfold Memory.insert
    split
    · simp
    · simp [ih]; tauto

theorem Memory.wf_insert (m : List Host.Cell) (a : Nat) (v : Byte) (hv : v ≠ 0#8)
    (ha : ∀ c ∈ m, c.1 ≠ a) (h : Memory.wf m) : Memory.wf (Memory.insert a v m) := by
  refine ⟨?_, fun c hc => ?_⟩
  · induction m with
    | nil => simp [Memory.insert]
    | cons d m ih =>
      have hd := List.pairwise_cons.1 h.1
      unfold Memory.insert
      split
      · next hlt =>
        refine List.pairwise_cons.2 ⟨fun c hc => ?_, h.1⟩
        rcases List.mem_cons.1 hc with rfl | hc
        · exact hlt
        · exact lt_trans hlt (hd.1 c hc)
      · next hlt =>
        have hne : d.1 ≠ a := ha d (by simp)
        refine List.pairwise_cons.2 ⟨fun c hc => ?_,
          ih (fun c hc => ha c (by simp [hc])) ⟨hd.2, fun c hc => h.2 c (by simp [hc])⟩⟩
        rcases (Memory.mem_insert m a v c).1 hc with rfl | hc
        · change d.1 < a; omega
        · exact hd.1 c hc
  · rcases (Memory.mem_insert m a v c).1 hc with rfl | hc
    · exact hv
    · exact h.2 c hc

theorem Memory.wf_write (m : List Host.Cell) (a : Nat) (v : Byte) (h : Memory.wf m) :
    Memory.wf (Memory.write m a v) := by
  unfold Memory.write
  split
  · exact Memory.wf_erase m a h
  · next hv => exact Memory.wf_insert _ a v hv (Memory.erase_ne m a) (Memory.wf_erase m a h)

theorem Memory.wf_writeBytes (bytes : List Byte) (m : List Host.Cell) (a : Nat) (h : Memory.wf m) :
    Memory.wf (Memory.writeBytes m a bytes) := by
  induction bytes generalizing m a with
  | nil => exact h
  | cons v rest ih => exact ih _ _ (Memory.wf_write m a v h)

theorem memWrite_wf (sp : Byte) (off : Nat) (bytes : List Byte) (s : State) (h : Memory.wf s.mem) :
    Memory.wf (memWrite sp off bytes s).mem := Memory.wf_writeBytes _ _ _ h

theorem putScrOut_wf {n : Nat} (v : BitVec n) (s : State) (h : Memory.wf s.mem) :
    Memory.wf (putScrOut v s).mem := memWrite_wf _ _ _ _ h

theorem resetWith_wf (p : Params) : Memory.wf (State.resetWith p).mem := Memory.wf_nil

/-! ### Buffer spaces -/

/-- What a byte of a buffer space is: a byte of the unit field a view shows, else a byte of memory. -/
theorem bufByte_cases (sp : Byte) (off : Nat) (s : State) :
    (∃ l, viewOf sp s = some l ∧ bufByte sp off s = byteAt l off) ∨
      (viewOf sp s = none ∧ bufByte sp off s = Memory.read s.mem (cellAddr sp off)) := by
  unfold bufByte
  cases viewOf sp s with
  | some l => exact .inl ⟨l, rfl, rfl⟩
  | none => exact .inr ⟨rfl, rfl⟩

/-- What a host byte read can do (48_host_port.md R583). -/
theorem hostBufRead_cases (sp : Byte) (off : Nat) (s : State) :
    (∃ size w, spaceTable.lookup sp = some (size, w) ∧ off < size ∧
        hostBufRead sp off s = (bufByte sp off s, s)) ∨
      hostBufRead sp off s = (0#8, raise .badAddr s) := by
  unfold hostBufRead
  split
  · next size w h =>
    split
    · next hlt => exact .inl ⟨size, w, h, hlt, rfl⟩
    · exact .inr rfl
  · exact .inr rfl

/-- What a host byte write can do (48_host_port.md R584). -/
theorem hostBufWrite_cases (sp : Byte) (off : Nat) (v : Byte) (s : State) :
    (∃ size, spaceTable.lookup sp = some (size, true) ∧ off < size ∧
        hostBufWrite sp off v s = memWrite sp off [v] s) ∨
      hostBufWrite sp off v s = raise .badAddr s := by
  unfold hostBufWrite
  split
  · next size w h =>
    split
    · next hlt => exact .inl ⟨size, by rw [h, hlt.2], hlt.1, rfl⟩
    · exact .inr rfl
  · exact .inr rfl

end Sys2Proof.Machine
end

