-- ==== Sys2Proof/Laws/Ops.lean ====
section
/-! SUPPORT. For each shared operation, everything it can do. -/

namespace Sys2Proof.Machine

/-! ### Errors, events and queues -/

/-- What `emit` can do (48_host_port.md R601). -/
theorem emit_cases (ev : Event) (s : State) :
    (s.evq.length < s.cfg.evqCap ∧ emit ev s = { s with evq := s.evq ++ [ev] }) ∨
      (s.cfg.evqCap ≤ s.evq.length ∧ emit ev s = { s with err := s.err ||| errBit .evqOvf }) := by
  unfold emit
  split
  · next h => exact .inl ⟨h, rfl⟩
  · next h => exact .inr ⟨by omega, rfl⟩

/-- What `raise` can do (60_exceptions.md R621). -/
theorem raise_cases (k : ErrCode) (s : State) :
    (k = .evqOvf ∧ raise k s = { s with err := s.err ||| errBit k }) ∨
      (k ≠ .evqOvf ∧ s.evq.length < s.cfg.evqCap ∧
        raise k s = { s with err := s.err ||| errBit k, evq := s.evq ++ [.error k] }) ∨
      (k ≠ .evqOvf ∧ s.cfg.evqCap ≤ s.evq.length ∧
        raise k s = { s with err := s.err ||| errBit k ||| errBit .evqOvf }) := by
  unfold raise
  by_cases hk : k = .evqOvf
  · exact .inl ⟨hk, by simp [hk]⟩
  · rcases emit_cases (.error k) { s with err := s.err ||| errBit k } with ⟨h, e⟩ | ⟨h, e⟩
    · exact .inr (.inl ⟨hk, h, by simp only [if_neg hk]; exact e⟩)
    · exact .inr (.inr ⟨hk, h, by simp only [if_neg hk]; exact e⟩)

/-- What `pushRxq` can do (20_memory.md R150, R151). -/
theorem pushRxq_cases (e : TaggedFrame) (s : State) :
    (s.rxq.length < s.cfg.rxqCap ∧ pushRxq e s = { s with rxq := s.rxq ++ [e] }) ∨
      (s.cfg.rxqCap ≤ s.rxq.length ∧ pushRxq e s = raise .rxqOvf s) := by
  unfold pushRxq
  split
  · next h => exact .inl ⟨h, rfl⟩
  · next h => exact .inr ⟨by omega, rfl⟩

/-- What `pushTxq` can do (46_tx_builder.md R469). -/
theorem pushTxq_cases (e : TxEntry) (s : State) :
    (s.txq.length < s.cfg.txqCap ∧ pushTxq e s = { s with txq := s.txq ++ [e] }) ∨
      (s.cfg.txqCap ≤ s.txq.length ∧ pushTxq e s = raise .txqOvf s) := by
  unfold pushTxq
  split
  · next h => exact .inl ⟨h, rfl⟩
  · next h => exact .inr ⟨by omega, rfl⟩

/-- What `pushPlq` can do (48_host_port.md R602). -/
theorem pushPlq_cases (r : PayloadRecord) (s : State) :
    (s.plq.length < s.cfg.plqCap ∧ pushPlq r s = { s with plq := s.plq ++ [r] }) ∨
      (s.cfg.plqCap ≤ s.plq.length ∧ pushPlq r s = raise .plqOvf s) := by
  unfold pushPlq
  split
  · next h => exact .inl ⟨h, rfl⟩
  · next h => exact .inr ⟨by omega, rfl⟩

/-- What `pushAndFeed` can do (45_rx_sequencer.md R416, 60_exceptions.md R632, log 20). -/
theorem pushAndFeed_cases (r : PayloadRecord) (f : RfFrame) (s : State) :
    (s.cfg.errorOrder = .asListed ∧ runningFeedFails f s = true ∧
      pushAndFeed r f s = pushPlq r (runningFeed f s)) ∨
    ((s.cfg.errorOrder = .asRun ∨ runningFeedFails f s = false) ∧
      pushAndFeed r f s = runningFeed f (pushPlq r s)) := by
  unfold pushAndFeed
  split
  · next h => exact .inl ⟨h.1, h.2, rfl⟩
  · next h => exact .inr ⟨by cases ho : s.cfg.errorOrder <;> simp_all, rfl⟩

/-! ### Stream blocks (43_convolutional.md R318) -/

@[simp] theorem Codec.standard_blockBits : Codec.standard.blockBits = 144 := rfl
@[simp] theorem Codec.standard_counterBits : Codec.standard.counterBits = 15 := rfl

/-- By default a stream block is all of its slots. -/
@[simp] theorem blockOfSlots_standard (fb : BitVec 144) : blockOfSlots Codec.standard fb = seqBits fb := by
  have h : (seqBits fb).length = 144 := by simp [seqBits]
  rw [blockOfSlots, Codec.standard_blockBits]
  exact List.take_of_length_le (le_of_eq h)

/-- And the slots are all of the block. -/
@[simp] theorem slotsOfBlock_standard (bits : List Bool) : slotsOfBlock Codec.standard bits = seqOfBits 144 bits :=
  congrArg (seqOfBits 144) (List.append_nil bits)

/-! ### Timers (10_state.md R66) -/

@[simp] theorem timerStart_run : timerStart.run = true := rfl
@[simp] theorem timerStart_el : timerStart.el = 0#32 := rfl
@[simp] theorem timerStop_run (t : Timer) : (timerStop t).run = false := rfl
@[simp] theorem timerStop_el (t : Timer) : (timerStop t).el = t.el := rfl

@[simp] theorem timerAdvance_run (dt : Nat) (t : Timer) : (timerAdvance dt t).run = t.run := by
  unfold timerAdvance; split <;> simp_all

/-- What `advance` does to the elapsed count. -/
theorem timerAdvance_el (dt : Nat) (t : Timer) :
    (timerAdvance dt t).el.toNat =
      if t.run then min (t.el.toNat + dt) (2 ^ 32 - 1) else t.el.toNat := by
  unfold timerAdvance
  split
  · simp only [satAdd32, BitVec.toNat_ofNat]; omega
  · rfl

theorem timerExpired_iff (t : Timer) (period : Nat) :
    timerExpired t period = true ↔ t.run = true ∧ period ≤ t.el.toNat := by
  simp [timerExpired]

/-! ### Numbers -/

/-- `sat32` (45_rx_sequencer.md R416). -/
theorem satAdd32_toNat (x : BitVec 32) (y : Nat) :
    (satAdd32 x y).toNat = min (x.toNat + y) (2 ^ 32 - 1) := by
  simp only [satAdd32, BitVec.toNat_ofNat]; omega

/-! ### Golay -/

/-- `masksOfWeight k n` lists the numbers below `2 ^ n` with exactly `k` ones. -/
theorem mem_masksOfWeight (k n x : Nat) :
    x ∈ masksOfWeight k n ↔ x < 2 ^ n ∧ (List.range n).countP (fun i => x.testBit i) = k := by
  induction n generalizing k x with
  | zero => cases k <;> simp [masksOfWeight]
  | succ n ih =>
    have hlow : ∀ y, y < 2 ^ n → y.testBit n = false := fun y hy => Nat.testBit_lt_two_pow hy
    cases k with
    | zero =>
      simp only [masksOfWeight, List.mem_singleton, List.countP_eq_zero, List.mem_range]
      constructor
      · rintro rfl; simp
      · rintro ⟨hx, h⟩
        refine Nat.eq_of_testBit_eq fun i => ?_
        by_cases hi : i < n + 1
        · simpa using h i hi
        · rw [Nat.zero_testBit]
          exact Nat.testBit_lt_two_pow (lt_of_lt_of_le hx (Nat.pow_le_pow_right (by decide) (by omega)))
    | succ k =>
      simp only [masksOfWeight, List.mem_append, List.mem_map, ih, List.range_succ,
        List.countP_append, List.countP_singleton]
      constructor
      · rintro (⟨hx, h⟩ | ⟨y, ⟨hy, h⟩, rfl⟩)
        · refine ⟨by omega, ?_⟩
          rw [hlow x hx]; simpa using h
        · refine ⟨by omega, ?_⟩
          have e : (List.range n).countP (fun i => (y + 2 ^ n).testBit i) =
              (List.range n).countP (fun i => y.testBit i) := by
            refine List.countP_congr fun i hi => ?_
            rw [Nat.add_comm, Nat.testBit_two_pow_add_gt (List.mem_range.1 hi)]
          have : (y + 2 ^ n).testBit n = true := by
            rw [Nat.add_comm, Nat.testBit_two_pow_add_eq, hlow y hy]; rfl
          rw [e, h, this]; rfl
      · rintro ⟨hx, h⟩
        by_cases hlt : x < 2 ^ n
        · left; rw [hlow x hlt] at h; exact ⟨hlt, by simpa using h⟩
        · right
          have hy : x - 2 ^ n < 2 ^ n := by omega
          have hxe : x = (x - 2 ^ n) + 2 ^ n := by omega
          refine ⟨x - 2 ^ n, ⟨hy, ?_⟩, by omega⟩
          have e : (List.range n).countP (fun i => x.testBit i) =
              (List.range n).countP (fun i => (x - 2 ^ n).testBit i) := by
            refine List.countP_congr fun i hi => ?_
            rw [hxe, Nat.add_comm, Nat.testBit_two_pow_add_gt (List.mem_range.1 hi)]
            simp
          have hb : x.testBit n = true := by
            rw [hxe, Nat.add_comm, Nat.testBit_two_pow_add_eq, hlow _ hy]; rfl
          rw [e, hb] at h
          simpa using h

/-- The error patterns tried are exactly those of up to three data bits (42_golay.md R286). -/
theorem mem_dataErrors (e : BitVec 12) : e ∈ dataErrors ↔ popcount e ≤ 3 := by
  have hp : popcount e = (List.range 12).countP (fun i => e.toNat.testBit i) := rfl
  have key : ∀ k, (∃ x, x ∈ masksOfWeight k 12 ∧ BitVec.ofNat 12 x = e) ↔ popcount e = k := by
    intro k
    simp only [mem_masksOfWeight]
    constructor
    · rintro ⟨x, ⟨hx, h⟩, rfl⟩
      rw [hp, BitVec.toNat_ofNat, Nat.mod_eq_of_lt hx, h]
    · rintro rfl
      exact ⟨e.toNat, ⟨e.isLt, hp.symm⟩, by simp⟩
  simp only [dataErrors, List.map_append, List.mem_append, List.mem_map, key]
  omega

/-- The high half of a word has at most the word's ones. -/
theorem popcount_high_le (w : BitVec 24) : popcount (w.extractLsb' 12 12) ≤ popcount w := by
  have e : List.range 24 = List.range 12 ++ (List.range 12).map (· + 12) := by decide
  have h : (List.range 12).countP (fun i => (w.extractLsb' 12 12).getLsbD i) =
      ((List.range 12).map (· + 12)).countP (fun i => w.getLsbD i) := by
    rw [List.countP_map]
    refine List.countP_congr fun i hi => ?_
    have : i < 12 := List.mem_range.mp hi
    simp [this, Nat.add_comm]
  unfold popcount
  rw [h, e, List.countP_append]
  omega

/-- What the Golay decoder can answer. -/
theorem golayDecode_cases (poly : BitVec 12) (w : BitVec 24) :
    (∃ d, golayDecode poly w = (d, true) ∧ popcount (golayEncode poly d ^^^ w) ≤ 3) ∨
      golayDecode poly w = (w.extractLsb' 12 12, false) := by
  unfold golayDecode
  dsimp only
  split
  · next e h => exact .inl ⟨_, rfl, by simpa using List.find?_some h⟩
  · exact .inr rfl

/-! ### Reassembly (44_lsf_lich.md R379) -/

/-- What the fragment feed can do. -/
theorem feedLich_cases (c : Codec) (buf : LsfBuffer) (b : Lich) :
    ((lichDecode c b).2 ≠ 0b1111#4 ∧ feedLich c buf b = (buf, .golayFail)) ∨
      ((lichDecode c b).2 = 0b1111#4 ∧ 5 < (fragmentPos (lichDecode c b).1).toNat ∧
        feedLich c buf b = (buf, .badPos)) ∨
      ((lichDecode c b).2 = 0b1111#4 ∧ (fragmentPos (lichDecode c b).1).toNat ≤ 5 ∧
        feedLich c buf b =
          (setFragment buf (lichDecode c b).1 (fragmentPos (lichDecode c b).1).toNat,
            .stored (fragmentPos (lichDecode c b).1).toNat)) := by
  unfold feedLich
  dsimp only
  by_cases h : (lichDecode c b).2 = 0b1111#4
  · by_cases h5 : 5 < (fragmentPos (lichDecode c b).1).toNat
    · exact .inr (.inl ⟨h, h5, by rw [if_neg (by simpa using h), if_pos h5]⟩)
    · exact .inr (.inr ⟨h, by omega, by rw [if_neg (by simpa using h), if_neg h5]⟩)
  · exact .inl ⟨h, by rw [if_pos h]⟩

@[simp] theorem empty_invalid (c : Codec) : isValid c .empty = false := rfl

/-- What the acceptance check can answer (45_rx_sequencer.md R410). -/
theorem acceptLsf_cases (l : Lsf) (s : State) :
    (dataType l = 0#2 ∧ acceptLsf l s = .inl .dataType) ∨
      (dataType l ≠ 0#2 ∧ canfEn s = true ∧ lsfCan l ≠ canfVal s ∧ acceptLsf l s = .inl .can) ∨
      (dataType l = 1#2 ∧ acceptLsf l s = .inr .data) ∨
      (dataType l = 2#2 ∧ acceptLsf l s = .inr .audio) ∨
      (dataType l = 3#2 ∧ acceptLsf l s = .inr .audioData) := by
  unfold acceptLsf
  by_cases h0 : dataType l = 0#2
  · simp [h0]
  · by_cases hc : (canfEn s && decide (lsfCan l ≠ canfVal s)) = true
    · right; left
      simp only [Bool.and_eq_true, decide_eq_true_eq] at hc
      simp [h0, hc.1, hc.2]
    · rw [if_neg h0, if_neg hc]
      have : ∀ x : BitVec 2, x = 0#2 ∨ x = 1#2 ∨ x = 2#2 ∨ x = 3#2 := by decide
      rcases this (dataType l) with h | h | h | h
      · exact absurd h h0
      · simp [h]
      · simp [h]
      · simp [h]

/-! ### Steps -/

/-- What `fetch` can answer: nothing pending, or the next environment step. -/
theorem fetch_cases (s : State) :
    (s.inputs = [] ∧ fetch s = none) ∨
      ∃ e rest, s.inputs = e :: rest ∧
        fetch s = some (e, { s with inputs := rest, serialOut := [] }) := by
  unfold fetch
  cases s.inputs with
  | nil => exact .inl ⟨rfl, rfl⟩
  | cons e rest => exact .inr ⟨e, rest, rfl, rfl⟩

/-- No instruction stops the block (60_exceptions.md R629). -/
theorem exec_is_next (i : Instr) (s : State) : ∃ t, exec i s = .next t := by
  cases i <;> exact ⟨_, rfl⟩

/-- What a step can do. -/
theorem step_cases (s t : State) (h : step s = .next t) :
    (s.inputs = [] ∧ t = s) ∨
      ∃ e rest, s.inputs = e :: rest ∧
        ((∃ w, e = .port w ∧ exec (decodePort w) { s with inputs := rest, serialOut := [] } = .next t) ∨
          (∃ dt bytes ok, e = .tick dt bytes ok ∧
            t = tick dt bytes ok { s with inputs := rest, serialOut := [] }) ∨
          (e = .reset ∧ t = resetStep { s with inputs := rest, serialOut := [] })) := by
  unfold step at h
  rcases fetch_cases s with ⟨hi, hf⟩ | ⟨e, rest, hi, hf⟩
  · rw [hf] at h; cases h; exact .inl ⟨hi, rfl⟩
  · rw [hf] at h
    refine .inr ⟨e, rest, hi, ?_⟩
    cases e with
    | port w => exact .inl ⟨w, rfl, h⟩
    | tick dt bytes ok => cases h; exact .inr (.inl ⟨dt, bytes, ok, rfl, rfl⟩)
    | reset => cases h; exact .inr (.inr ⟨rfl, rfl⟩)

end Sys2Proof.Machine
end

