-- ==== Sys2Proof/Laws/PerInstr.lean ====
section
/-! SUPPORT. One lemma per instruction: its encoding carries the fixed bits its row of spec/opcode_table.json
gives (30_encoding.md R181, R184, R213, R220). -/

namespace Sys2Proof.Laws

/-- The width of a format's fixed field, and the value a code has in it: the 2-bit `kind` of a 64-bit `PORT`
word, the `op` of a `CMD` word, the type byte of a serial frame, a tagged frame's kind. -/
def EncodingFormat.fixedField : Code → Option (Nat × Nat)
  | .port w => some (64, (w.extractLsb' 62 2).toNat)
  | .cmd w => some (32, (w.extractLsb' 24 8).toNat)
  | .ser bytes =>
    if bytes.getD 1 0#8 = SerialCodes.standard.lenEscape then (bytes[3]?).map fun b => (8, b.toNat)
    else (bytes[2]?).map fun b => (8, b.toNat)
  | .tag e => some (3, e.tag.toNat)

/-- The row of spec/opcode_table.json an instruction belongs to: its format's width and its fixed value. -/
def EncodingFormat.row : Instr → Nat × Nat
  | .rd _ => (64, 0)
  | .wr _ _ => (64, 1)
  | .brd _ _ => (64, 2)
  | .bwr _ _ _ => (64, 3)
  | .nop => (32, 0)
  | .genc _ => (32, 1)
  | .gdec _ => (32, 2)
  | .cencLsf => (32, 3)
  | .cdecLsf => (32, 4)
  | .cdecLsfSoft => (32, 5)
  | .cencStr => (32, 6)
  | .cdecStr => (32, 7)
  | .cdecStrSoft => (32, 8)
  | .ilv => (32, 9)
  | .dilv => (32, 0xa)
  | .scr => (32, 0xb)
  | .crc16 _ => (32, 0xc)
  | .lenc => (32, 0xd)
  | .ldec => (32, 0xe)
  | .rxInject _ _ => (32, 0x10)
  | .rxReset => (32, 0x11)
  | .txStart => (32, 0x20)
  | .txPayload _ => (32, 0x21)
  | .txEnd => (32, 0x22)
  | .txNextLsf => (32, 0x23)
  | .linkOpen => (32, 0x30)
  | .linkClose => (32, 0x31)
  | .linkSetMode _ => (32, 0x32)
  | .evPop => (32, 0x40)
  | .plPop => (32, 0x41)
  | .serGetVersion _ => (8, 0)
  | .serGetStatus _ => (8, 1)
  | .serSetConfig _ => (8, 2)
  | .serSetMode _ => (8, 3)
  | .serSetFreq _ => (8, 4)
  | .serM17LinkSetup _ => (8, 0x45)
  | .serM17Stream _ => (8, 0x46)
  | .serM17Packet _ => (8, 0x47)
  | .serM17Lost _ => (8, 0x48)
  | .serAck _ => (8, 0x70)
  | .serNak _ => (8, 0x7f)
  | .serDebug1 _ => (8, 0xf1)
  | .serDebug2 _ => (8, 0xf2)
  | .serDebug3 _ => (8, 0xf3)
  | .serDebug4 _ => (8, 0xf4)
  | .serDebug5 _ => (8, 0xf5)
  | .tagHeader _ _ _ _ => (3, 0)
  | .tagData _ _ _ _ => (3, 1)
  | .tagData2 _ _ _ _ => (3, 2)
  | .tagLost _ _ _ _ => (3, 3)
  | .tagEot _ _ _ _ => (3, 4)

/-- The encoding of a well-formed instruction has the fixed bits of its row. -/
def EncodingFormat.Statement (i : Instr) : Prop :=
  i.wellFormed = true → EncodingFormat.fixedField (encode i) = some (EncodingFormat.row i)

/-- The type byte of a frame the writer builds, short or long. -/
theorem EncodingFormat.serFrame_field (t : Byte) (p : List Byte) (h : p.length ≤ 506) :
    EncodingFormat.fixedField (.ser (serFrame t p)) = some (8, t.toNat) := by
  unfold serFrame
  split
  · next h =>
    have hne : ¬(BitVec.ofNat 8 (p.length + 3) = SerialCodes.standard.lenEscape) := by
      intro he
      have := congrArg BitVec.toNat he
      simp only [BitVec.toNat_ofNat, SerialCodes.standard] at this
      omega
    simp [EncodingFormat.fixedField, hne]
  · simp [EncodingFormat.fixedField]

/-- The `kind` of a `PORT` word. -/
theorem EncodingFormat.portWord_field (k : BitVec 2) (sel : Byte) (off : BitVec 16) (d : Word) :
    EncodingFormat.fixedField (.port (portWord k sel off d)) = some (64, k.toNat) := by
  have : (portWord k sel off d).extractLsb' 62 2 = k := by
    apply BitVec.eq_of_getLsbD_eq
    intro i hi
    have h1 : ¬62 + i < 32 := by omega
    have h2 : ¬62 + i - 32 < 6 := by omega
    have h3 : ¬62 + i - 32 - 6 < 16 := by omega
    have h4 : ¬62 + i - 32 - 6 - 16 < 8 := by omega
    have h5 : 62 + i - 32 - 6 - 16 - 8 = i := by omega
    simp only [portWord, BitVec.getLsbD_extractLsb', hi, decide_true, Bool.true_and]
    erw [BitVec.getLsbD_append, BitVec.getLsbD_append, BitVec.getLsbD_append, BitVec.getLsbD_append]
    simp [h1, h2, h3, h4, h5]
  simp [EncodingFormat.fixedField, this]

/-- The `op` of a `CMD` word. -/
theorem EncodingFormat.cmdWord_field (op : Byte) (imm : BitVec 24) :
    EncodingFormat.fixedField (.cmd (cmdWord op imm)) = some (32, op.toNat) := by
  have : (cmdWord op imm).extractLsb' 24 8 = op := BitVec.extractLsb'_append_eq_left
  simp [EncodingFormat.fixedField, this]

theorem EncodingFormat.rd (sel : Byte) : EncodingFormat.Statement (.rd sel) :=
  fun _ => EncodingFormat.portWord_field _ _ _ _
theorem EncodingFormat.wr (sel : Byte) (data : Word) : EncodingFormat.Statement (.wr sel data) :=
  fun _ => EncodingFormat.portWord_field _ _ _ _
theorem EncodingFormat.brd (sel : Byte) (off : BitVec 16) : EncodingFormat.Statement (.brd sel off) :=
  fun _ => EncodingFormat.portWord_field _ _ _ _
theorem EncodingFormat.bwr (sel : Byte) (off : BitVec 16) (data : Byte) : EncodingFormat.Statement (.bwr sel off data) :=
  fun _ => EncodingFormat.portWord_field _ _ _ _
theorem EncodingFormat.nop : EncodingFormat.Statement .nop :=
  fun _ => rfl
theorem EncodingFormat.genc (d : BitVec 12) : EncodingFormat.Statement (.genc d) :=
  fun _ => EncodingFormat.cmdWord_field _ _
theorem EncodingFormat.gdec (w : BitVec 24) : EncodingFormat.Statement (.gdec w) :=
  fun _ => EncodingFormat.cmdWord_field _ _
theorem EncodingFormat.cencLsf : EncodingFormat.Statement .cencLsf :=
  fun _ => rfl
theorem EncodingFormat.cdecLsf : EncodingFormat.Statement .cdecLsf :=
  fun _ => rfl
theorem EncodingFormat.cdecLsfSoft : EncodingFormat.Statement .cdecLsfSoft :=
  fun _ => rfl
theorem EncodingFormat.cencStr : EncodingFormat.Statement .cencStr :=
  fun _ => rfl
theorem EncodingFormat.cdecStr : EncodingFormat.Statement .cdecStr :=
  fun _ => rfl
theorem EncodingFormat.cdecStrSoft : EncodingFormat.Statement .cdecStrSoft :=
  fun _ => rfl
theorem EncodingFormat.ilv : EncodingFormat.Statement .ilv :=
  fun _ => rfl
theorem EncodingFormat.dilv : EncodingFormat.Statement .dilv :=
  fun _ => rfl
theorem EncodingFormat.scr : EncodingFormat.Statement .scr :=
  fun _ => rfl
theorem EncodingFormat.crc16 (n : BitVec 10) : EncodingFormat.Statement (.crc16 n) :=
  fun _ => EncodingFormat.cmdWord_field _ _
theorem EncodingFormat.lenc : EncodingFormat.Statement .lenc :=
  fun _ => rfl
theorem EncodingFormat.ldec : EncodingFormat.Statement .ldec :=
  fun _ => rfl
theorem EncodingFormat.rxInject (tag : BitVec 3) (hasRssi : Bool) : EncodingFormat.Statement (.rxInject tag hasRssi) :=
  fun _ => EncodingFormat.cmdWord_field _ _
theorem EncodingFormat.rxReset : EncodingFormat.Statement .rxReset :=
  fun _ => rfl
theorem EncodingFormat.txStart : EncodingFormat.Statement .txStart :=
  fun _ => rfl
theorem EncodingFormat.txPayload (eos : Bool) : EncodingFormat.Statement (.txPayload eos) :=
  fun _ => EncodingFormat.cmdWord_field _ _
theorem EncodingFormat.txEnd : EncodingFormat.Statement .txEnd :=
  fun _ => rfl
theorem EncodingFormat.txNextLsf : EncodingFormat.Statement .txNextLsf :=
  fun _ => rfl
theorem EncodingFormat.linkOpen : EncodingFormat.Statement .linkOpen :=
  fun _ => rfl
theorem EncodingFormat.linkClose : EncodingFormat.Statement .linkClose :=
  fun _ => rfl
theorem EncodingFormat.linkSetMode (mode : Byte) : EncodingFormat.Statement (.linkSetMode mode) :=
  fun _ => EncodingFormat.cmdWord_field _ _
theorem EncodingFormat.evPop : EncodingFormat.Statement .evPop :=
  fun _ => rfl
theorem EncodingFormat.plPop : EncodingFormat.Statement .plPop :=
  fun _ => rfl
theorem EncodingFormat.serGetVersion (p : List Byte) : EncodingFormat.Statement (.serGetVersion p) :=
  fun h => EncodingFormat.serFrame_field _ p (of_decide_eq_true h)
theorem EncodingFormat.serGetStatus (p : List Byte) : EncodingFormat.Statement (.serGetStatus p) :=
  fun h => EncodingFormat.serFrame_field _ p (of_decide_eq_true h)
theorem EncodingFormat.serSetConfig (p : List Byte) : EncodingFormat.Statement (.serSetConfig p) :=
  fun h => EncodingFormat.serFrame_field _ p (of_decide_eq_true h)
theorem EncodingFormat.serSetMode (p : List Byte) : EncodingFormat.Statement (.serSetMode p) :=
  fun h => EncodingFormat.serFrame_field _ p (of_decide_eq_true h)
theorem EncodingFormat.serSetFreq (p : List Byte) : EncodingFormat.Statement (.serSetFreq p) :=
  fun h => EncodingFormat.serFrame_field _ p (of_decide_eq_true h)
theorem EncodingFormat.serM17LinkSetup (p : List Byte) : EncodingFormat.Statement (.serM17LinkSetup p) :=
  fun h => EncodingFormat.serFrame_field _ p (of_decide_eq_true h)
theorem EncodingFormat.serM17Stream (p : List Byte) : EncodingFormat.Statement (.serM17Stream p) :=
  fun h => EncodingFormat.serFrame_field _ p (of_decide_eq_true h)
theorem EncodingFormat.serM17Packet (p : List Byte) : EncodingFormat.Statement (.serM17Packet p) :=
  fun h => EncodingFormat.serFrame_field _ p (of_decide_eq_true h)
theorem EncodingFormat.serM17Lost (p : List Byte) : EncodingFormat.Statement (.serM17Lost p) :=
  fun h => EncodingFormat.serFrame_field _ p (of_decide_eq_true h)
theorem EncodingFormat.serAck (p : List Byte) : EncodingFormat.Statement (.serAck p) :=
  fun h => EncodingFormat.serFrame_field _ p (of_decide_eq_true h)
theorem EncodingFormat.serNak (p : List Byte) : EncodingFormat.Statement (.serNak p) :=
  fun h => EncodingFormat.serFrame_field _ p (of_decide_eq_true h)
theorem EncodingFormat.serDebug1 (p : List Byte) : EncodingFormat.Statement (.serDebug1 p) :=
  fun h => EncodingFormat.serFrame_field _ p (of_decide_eq_true h)
theorem EncodingFormat.serDebug2 (p : List Byte) : EncodingFormat.Statement (.serDebug2 p) :=
  fun h => EncodingFormat.serFrame_field _ p (of_decide_eq_true h)
theorem EncodingFormat.serDebug3 (p : List Byte) : EncodingFormat.Statement (.serDebug3 p) :=
  fun h => EncodingFormat.serFrame_field _ p (of_decide_eq_true h)
theorem EncodingFormat.serDebug4 (p : List Byte) : EncodingFormat.Statement (.serDebug4 p) :=
  fun h => EncodingFormat.serFrame_field _ p (of_decide_eq_true h)
theorem EncodingFormat.serDebug5 (p : List Byte) : EncodingFormat.Statement (.serDebug5 p) :=
  fun h => EncodingFormat.serFrame_field _ p (of_decide_eq_true h)
theorem EncodingFormat.tagHeader (hf : Bool) (f : RfFrame) (hr : Bool) (r : BitVec 16) : EncodingFormat.Statement (.tagHeader hf f hr r) :=
  fun _ => rfl
theorem EncodingFormat.tagData (hf : Bool) (f : RfFrame) (hr : Bool) (r : BitVec 16) : EncodingFormat.Statement (.tagData hf f hr r) :=
  fun _ => rfl
theorem EncodingFormat.tagData2 (hf : Bool) (f : RfFrame) (hr : Bool) (r : BitVec 16) : EncodingFormat.Statement (.tagData2 hf f hr r) :=
  fun _ => rfl
theorem EncodingFormat.tagLost (hf : Bool) (f : RfFrame) (hr : Bool) (r : BitVec 16) : EncodingFormat.Statement (.tagLost hf f hr r) :=
  fun _ => rfl
theorem EncodingFormat.tagEot (hf : Bool) (f : RfFrame) (hr : Bool) (r : BitVec 16) : EncodingFormat.Statement (.tagEot hf f hr r) :=
  fun _ => rfl

end Sys2Proof.Laws
end

