-- ==== Sys2Proof/Tests/Slice0.lean ====
section
/-! SUPPORT. Tests: what WellFormed refuses, every constructor's decoding from bits written out from
30_encoding.md, results from 95_test_vectors.md and the rules' own examples, and for every obligation with
hypotheses a witness that meets them. -/

namespace Sys2Proof.Tests

open Sys2Proof.Machine

set_option maxRecDepth 10000
set_option Elab.async false

/-! ### Ill-formed terms are refused -/

theorem test_wf_payload_506 : (Instr.serAck (List.replicate 506 0#8)).wellFormed = true := by decide +kernel
theorem test_wf_payload_507 : (Instr.serAck (List.replicate 507 0#8)).wellFormed = false := by decide +kernel
theorem test_wf_rssi_without_flag : (Instr.tagEot true 0#384 false 1#16).wellFormed = false := by decide
theorem test_wf_lost_with_frame : (Instr.tagLost true 0#384 false 0#16).wellFormed = false := by decide
theorem test_wf_lost_frame_bytes : (Instr.tagLost false 1#384 false 0#16).wellFormed = false := by decide +kernel
theorem test_wf_data_without_frame : (Instr.tagData false 0#384 false 0#16).wellFormed = false := by decide

/-! ### Decoding, words written out field by field from 30_encoding.md R181 to R184, R210 to R213, R220 -/

/-- kind(2) sel(8) off(16) reserved(6) data(32), reserved and unused bits set. -/
theorem test_decode_port :
    decode (.port 0b00_00001111_1111111111111111_111111_11111111111111111111111111111111#64)
      = .ok (.rd 0x0F#8) ∧
    decode (.port 0b01_00000001_0000000000000000_111111_00000000000000000000001000000001#64)
      = .ok (.wr 0x01#8 0x00000201#32) ∧
    decode (.port 0b10_00001000_0000000111111111_000000_00000000000000000000000000000001#64)
      = .ok (.brd 0x08#8 511#16) ∧
    decode (.port 0b11_00000111_0000000000000011_000000_00000000000100100011010010101011#64)
      = .ok (.bwr 0x07#8 3#16 0xAB#8) := ⟨rfl, rfl, rfl, rfl⟩

/-- op(8) imm(24), the ignored bits of imm set (R183). -/
theorem test_decode_cmd_codec :
    decode (.cmd 0b00000000_101010111100110111101111#32) = .ok .nop ∧
    decode (.cmd 0b00000001_111111111111_000100100011#32) = .ok (.genc 0x123#12) ∧
    decode (.cmd 0b00000010_100100100011000110101101#32) = .ok (.gdec 0x9231AD#24) ∧
    decode (.cmd 0x03FFFFFF#32) = .ok .cencLsf ∧ decode (.cmd 0x04FFFFFF#32) = .ok .cdecLsf ∧
    decode (.cmd 0x05FFFFFF#32) = .ok .cdecLsfSoft ∧ decode (.cmd 0x06FFFFFF#32) = .ok .cencStr ∧
    decode (.cmd 0x07FFFFFF#32) = .ok .cdecStr ∧ decode (.cmd 0x08FFFFFF#32) = .ok .cdecStrSoft ∧
    decode (.cmd 0x09FFFFFF#32) = .ok .ilv ∧ decode (.cmd 0x0AFFFFFF#32) = .ok .dilv ∧
    decode (.cmd 0x0BFFFFFF#32) = .ok .scr ∧
    decode (.cmd 0b00001100_11111111111111_1000000001#32) = .ok (.crc16 513#10) ∧
    decode (.cmd 0x0DFFFFFF#32) = .ok .lenc ∧ decode (.cmd 0x0EFFFFFF#32) = .ok .ldec :=
  ⟨rfl, rfl, rfl, rfl, rfl, rfl, rfl, rfl, rfl, rfl, rfl, rfl, rfl, rfl, rfl⟩

theorem test_decode_cmd_units :
    decode (.cmd 0b00010000_11111111111111111111_1_100#32) = .ok (.rxInject 4#3 true) ∧
    decode (.cmd 0b00010000_00000000000000000000_0_001#32) = .ok (.rxInject 1#3 false) ∧
    decode (.cmd 0x11FFFFFF#32) = .ok .rxReset ∧ decode (.cmd 0x20FFFFFF#32) = .ok .txStart ∧
    decode (.cmd 0b00100001_11111111111111111111111_0#32) = .ok (.txPayload false) ∧
    decode (.cmd 0x21000001#32) = .ok (.txPayload true) ∧ decode (.cmd 0x22FFFFFF#32) = .ok .txEnd ∧
    decode (.cmd 0x23FFFFFF#32) = .ok .txNextLsf ∧ decode (.cmd 0x30FFFFFF#32) = .ok .linkOpen ∧
    decode (.cmd 0x31FFFFFF#32) = .ok .linkClose ∧
    decode (.cmd 0b00110010_1111111111111111_00000111#32) = .ok (.linkSetMode 0x07#8) ∧
    decode (.cmd 0x40FFFFFF#32) = .ok .evPop ∧ decode (.cmd 0x41FFFFFF#32) = .ok .plPop ∧
    decode (.cmd 0x0F000000#32) = .error .reservedOp ∧ decode (.cmd 0x42000000#32) = .error .reservedOp :=
  ⟨rfl, rfl, rfl, rfl, rfl, rfl, rfl, rfl, rfl, rfl, rfl, rfl, rfl, rfl, rfl⟩

/-- start, length, type, payload (R210, R213). -/
theorem test_decode_ser :
    decode (.ser [0b11100000#8, 0b00000100#8, 0b00000000#8, 0x01#8]) = .ok (.serGetVersion [0x01#8]) ∧
    decode (.ser [0xE0#8, 0x06#8, 0x01#8, 0x00#8, 0x00#8, 0x07#8])
      = .ok (.serGetStatus [0x00#8, 0x00#8, 0x07#8]) ∧
    decode (.ser [0xE0#8, 0x03#8, 0x02#8]) = .ok (.serSetConfig []) ∧
    decode (.ser [0xE0#8, 0x04#8, 0x03#8, 0x07#8]) = .ok (.serSetMode [0x07#8]) ∧
    decode (.ser [0xE0#8, 0x04#8, 0x04#8, 0xAA#8]) = .ok (.serSetFreq [0xAA#8]) ∧
    decode (.ser [0xE0#8, 0x04#8, 0x45#8, 0x55#8]) = .ok (.serM17LinkSetup [0x55#8]) ∧
    decode (.ser [0xE0#8, 0x04#8, 0x46#8, 0xFF#8]) = .ok (.serM17Stream [0xFF#8]) ∧
    decode (.ser [0xE0#8, 0x04#8, 0x47#8, 0x75#8]) = .ok (.serM17Packet [0x75#8]) ∧
    decode (.ser [0xE0#8, 0x03#8, 0x48#8]) = .ok (.serM17Lost []) ∧
    decode (.ser [0xE0#8, 0x04#8, 0x70#8, 0x02#8]) = .ok (.serAck [0x02#8]) ∧
    decode (.ser [0xE0#8, 0x05#8, 0x7F#8, 0x03#8, 0x02#8]) = .ok (.serNak [0x03#8, 0x02#8]) ∧
    decode (.ser [0xE0#8, 0x03#8, 0xF1#8]) = .ok (.serDebug1 []) ∧
    decode (.ser [0xE0#8, 0x03#8, 0xF2#8]) = .ok (.serDebug2 []) ∧
    decode (.ser [0xE0#8, 0x04#8, 0xF3#8, 0x41#8]) = .ok (.serDebug3 [0x41#8]) ∧
    decode (.ser [0xE0#8, 0x03#8, 0xF4#8]) = .ok (.serDebug4 []) ∧
    decode (.ser [0xE0#8, 0x03#8, 0xF5#8]) = .ok (.serDebug5 []) :=
  ⟨rfl, rfl, rfl, rfl, rfl, rfl, rfl, rfl, rfl, rfl, rfl, rfl, rfl, rfl, rfl, rfl⟩

/-- The long form: byte 2 is the length less 255 (R211; SFE-7 of 95_test_vectors.md), and what is no frame. -/
theorem test_decode_ser_forms :
    decode (.ser ([0xE0#8, 0x00#8, 0x02#8, 0xF1#8] ++ List.replicate 253 7#8))
      = .ok (.serDebug1 (List.replicate 253 7#8)) ∧
    decode (.ser ([0xE0#8, 0xFF#8, 0xF1#8] ++ List.replicate 252 7#8))
      = .ok (.serDebug1 (List.replicate 252 7#8)) ∧
    decode (.ser [0xE0#8, 0x01#8]) = .error .lengthTooSmall ∧
    decode (.ser [0xE1#8, 0x03#8, 0x00#8]) = .error .noStartByte ∧
    decode (.ser [0xE0#8, 0x03#8, 0x99#8]) = .error .unknownType ∧
    decode (.ser [0xE0#8, 0x05#8, 0x70#8, 0x02#8]) = .error .lengthMismatch ∧
    decode (.ser [0xE0#8]) = .error .truncated :=
  ⟨rfl, rfl, rfl, rfl, rfl, rfl, rfl⟩

theorem test_decode_tag :
    decode (.tag ⟨0b000#3, true, 0x55F7#384, false, 0#16⟩) = .ok (.tagHeader true 0x55F7#384 false 0#16) ∧
    decode (.tag ⟨0b001#3, true, 0xFF5D#384, true, 0x1234#16⟩)
      = .ok (.tagData true 0xFF5D#384 true 0x1234#16) ∧
    decode (.tag ⟨0b010#3, true, 0#384, false, 0#16⟩) = .ok (.tagData2 true 0#384 false 0#16) ∧
    decode (.tag ⟨0b011#3, false, 0#384, false, 0#16⟩) = .ok (.tagLost false 0#384 false 0#16) ∧
    decode (.tag ⟨0b100#3, true, 0#384, false, 0#16⟩) = .ok (.tagEot true 0#384 false 0#16) ∧
    decode (.tag ⟨0b101#3, true, 0#384, false, 0#16⟩) = .error .reservedTag :=
  ⟨rfl, rfl, rfl, rfl, rfl, rfl⟩

/-- 30_encoding.md R188, R189: the words of `WR CMD` and of a byte write. -/
theorem test_encode_words :
    encode (.wr 0x10#8 0x01000123#32) = .port 0x4400000001000123#64 ∧
    encode (.bwr 0x07#8 47#16 0x42#8) = .port 0xC1C00BC000000042#64 ∧
    encode (.genc 0x123#12) = .cmd 0x01000123#32 ∧
    encode (.linkSetMode 0x07#8) = .cmd 0x32000007#32 ∧
    encode (.serSetMode [0x07#8]) = .ser [0xE0#8, 0x04#8, 0x03#8, 0x07#8] :=
  ⟨rfl, rfl, rfl, rfl, rfl⟩

/-- The host's two entry points on a row of each format. -/
theorem test_table_words :
    decodeTableWord 64 0x03C0000000000000 = some (.rd 0x0F#8) ∧
    decodeTableWord 32 0x01000123 = some (.genc 0x123#12) ∧
    decodeTableWord 8 0x7F = some (.serNak [0#8, 0#8]) ∧
    decodeTableWord 3 4 = some (.tagEot true 0#384 false 0#16) ∧
    decodeTableWord 32 0x0F000000 = none :=
  ⟨rfl, rfl, rfl, rfl, rfl⟩

/-! ### Results of 95_test_vectors.md and of the rules' examples -/

/-- The state an instruction answers. -/
def after (i : Instr) (s : State) : State :=
  match exec i s with
  | .next t => t
  | .fault _ => State.reset
  | .refused _ => State.reset

/-- Right after reset, with bytes at the start of `SCR_IN`. -/
def scrIn {n : Nat} (bytes : BitVec n) : State := memWrite spScrIn 0 (bytesOfSeq bytes) State.reset

/-- The first `n / 8` bytes of `SCR_OUT`. -/
def scrOut (n : Nat) (s : State) : BitVec n := seqOfBytes n (memRead spScrOut 0 (n / 8) s)

/-- `LSF_EX`. -/
def lsfEx : Lsf := 0xFFFFFFFFFFFF00000A1B2C3D000500000000000000000000000000008E27#240

/-- RXS-5: `LSF_EX` with data type 0, sealed. -/
def lsfDt0 : Lsf := 0xFFFFFFFFFFFF00000A1B2C3D000100000000000000000000000000007F50#240

/-- `HDR_EX`. -/
def hdrEx : RfFrame :=
  0x55F7173D2A51CADEAC62FA26D680EAC0D5674C8A1E47D301E46A6C373FD8846ADAE2998AD282F03586B7D7384C8878C2#384

/-- The HEADER frame of `lsfDt0`. -/
def hdrDt0 : RfFrame :=
  0x55F7173D2251CADFAD73FB26D680CAC0D5474C8A1E43D301E46A64B73FD8846ADAE2898AD080D03586B7D73C0C8C78C2#384

/-- `STR(1, 0x8001, 00×16)`. -/
def strEx : RfFrame :=
  0xFF5D76F5C311C3BFCC6ABA2E96B0C898D515148852538907F06C6E2F25DC00EACD701D0F5581D1B3071757182D2878C3#384

theorem test_hdr_decodes : rxHeader Codec.standard hdrEx = lsfEx := by decide +kernel
theorem test_hdr_dt0_decodes : rxHeader Codec.standard hdrDt0 = lsfDt0 := by decide +kernel
/-- LICH-2 of 95_test_vectors.md. -/
theorem test_stream_lich : rxLich Codec.standard strEx = 0xFF097B0000000A1DFCB20264#96 := by decide +kernel
theorem test_stream_data : rxData Codec.standard strEx = (0x8001#16, 0#128, 0) := by decide +kernel

theorem test_genc : (after (.genc 0x123#12) State.reset).res0 = 0x001230AC#32 := by decide +kernel
theorem test_genc_data_bit : (after (.genc 0x800#12) State.reset).res0 = 0x00800C75#32 := by decide +kernel
theorem test_gdec_three_errors :
    (after (.gdec 0x9231AD#24) State.reset).res0 = 0x123#32 ∧
      (after (.gdec 0x9231AD#24) State.reset).res1 = 1#32 := by decide +kernel
theorem test_ilv : scrOut 368 (after .ilv (scrIn (1#368 <<< 366))) = 1#368 <<< 230 := by decide +kernel
theorem test_dilv : scrOut 368 (after .dilv (scrIn (1#368 <<< 230))) = 1#368 <<< 366 := by decide +kernel
theorem test_scr : scrOut 368 (after .scr State.reset) =
    0xD6B5E23082FF8462BA4E9690D898DD5D0CC85243911DF86E682F35DA14EACD76198DD580D133871357182D2978C3#368 := by
  decide +kernel
theorem test_cencStr : scrOut 272 (after .cencStr (scrIn 0x0000000102030405060708090A0B0C0D0E0F#144)) =
    0x000000000000006B435E07372B60DBD9CDC370F5B06A9BD75B63BF170E057B867647#272 := by decide +kernel
/-- CNV-5: two bit errors. -/
theorem test_cdecStr :
    decodeData Codec.standard 0x040000000000006B435E07372B60DBD9CDC372F5B06A9BD75B63BF170E057B867647#272 =
      (0x0000000102030405060708090A0B0C0D0E0F#144, 2, 28) := by decide +kernel
theorem test_crc16 : (after (.crc16 9#10) (scrIn 0x313233343536373839#72)).res0 = 0x772B#32 := by
  decide +kernel
theorem test_crc16_sealed : (after (.crc16 30#10) (scrIn lsfEx)).res0 = 0#32 := by decide +kernel
theorem test_crc16_count_513 : (after (.crc16 513#10) State.reset).err = 1#32 := by decide +kernel
theorem test_lenc : scrOut 96 (after .lenc (scrIn 0x2C3D00050040#48)) = 0x2C30FED00DFA050EFE040D99#96 := by
  decide +kernel
/-- LICH-8: one bit inverted in each codeword. -/
theorem test_ldec :
    scrOut 48 (after .ldec (scrIn 0xFE097B0010000A1D7CB20265#96)) = 0xFF00000A1B20#48 ∧
      (after .ldec (scrIn 0xFE097B0010000A1D7CB20265#96)).res0 = 0xF#32 := by decide +kernel
/-- LICH-9: codeword 2 fails and gives its raw data bits. -/
theorem test_ldec_failing :
    lichDecode Codec.standard 0xFF097B000000FA1DFCB20264#96 = (0xFF0000FA1B20#48, 0b1011#4) := by
  decide +kernel

/-- In a call of `lsfEx`. -/
def inAudio : State := { State.reset with rx := ⟨.audio, setWhole lsfEx, .empty, 0#32, 0#32, 0#32, false⟩ }

/-- In a call, ended by an end-of-stream frame number. -/
def inAudioEos : State := { inAudio with ctrl := 0x200#32 }

theorem test_lsfEx_crc : crcOk Codec.standard lsfEx = true := by decide +kernel

/-- RXS-2's first frame. -/
theorem test_tagHeader :
    (doTagHeader hdrEx false 0#16 State.reset).rx.state = .audio ∧
      (doTagHeader hdrEx false 0#16 State.reset).evq = [.callStart .audio .header lsfEx] := by
  have h : doTagHeader hdrEx false 0#16 State.reset = headerPath hdrEx State.reset := by
    simp [doTagHeader, syncFails, checkSync, reportRssi, inCall, State.reset, State.resetWith, RxUnit.initial]
  have hl : rxHeader State.reset.cfg.codec hdrEx = lsfEx := test_hdr_decodes
  rw [h]
  simp only [headerPath, hl]
  decide +kernel

/-- R416, R422: an end-of-stream frame number ends the call, its payload counted and queued. -/
theorem test_tagData_eos :
    (doTagData strEx false 0#16 inAudioEos).rx.state = .listening ∧
      (doTagData strEx false 0#16 inAudioEos).rx.bits = 272#32 ∧
      (doTagData strEx false 0#16 inAudioEos).plq = [⟨0x8001#16, .audio, 0#16, 0#128⟩] := by
  have h : doTagData strEx false 0#16 inAudioEos = callFrame strEx true inAudioEos := by
    simp [doTagData, syncFails, checkSync, reportRssi, inCall, inAudioEos, inAudio]
  have hd : rxData inAudioEos.cfg.codec strEx = (0x8001#16, 0#128, 0) := test_stream_data
  rw [h]
  simp only [callFrame, hd]
  decide +kernel

/-- A call frame that meets a full payload FIFO and a failed LICH, with the errors in either order (log 20). -/
def callErrors (order : ErrorOrder) : State :=
  { inAudio with cfg := { inAudio.cfg with errorOrder := order, plqCap := 0 } }
/-- An all-zero frame, whose LICH fails: R416's order, and R632's. -/
theorem test_error_order :
    (pushAndFeed ⟨0#16, .audio, 0#16, 0#128⟩ 0#384 (callErrors .asRun)).evq
        = [.error .plqOvf, .error .golay] ∧
      (pushAndFeed ⟨0#16, .audio, 0#16, 0#128⟩ 0#384 (callErrors .asListed)).evq
        = [.error .golay, .error .plqOvf] := by decide +kernel

/-- R9: an 8-bit frame number, whose block of 136 bits is punctured to 272 of its 280 coded bits. -/
def narrowFn : Codec :=
  { Codec.standard with fnBits := 8, punctP2 := List.replicate 34 true ++ [false] }
theorem test_narrowFn_wf : narrowFn.wf = true := by decide +kernel
theorem test_narrowFn_round_trip :
    decodeData narrowFn (encodeData narrowFn (0x0083#16 ++ 0x0102030405060708090A0B0C0D0E0F10#128)) =
      (0x0083#16 ++ 0x0102030405060708090A0B0C0D0E0F10#128, 0, 8) := by decide +kernel
theorem test_narrowFn_eos :
    payloadFn true { State.reset with
        cfg := { Params.illustrative with codec := narrowFn }, tx := { TxUnit.initial with fn := 3#15 } }
      = 0x0083#16 ∧ nextFn narrowFn 127#15 = 0#15 ∧ eosFlag narrowFn 0x0083#16 = true := by decide +kernel

theorem test_tagData2 : (after (.tagData2 true strEx true 0x1234#16) inAudio).evq = [.rssi 0x1234#16] := by
  decide +kernel
/-- R419, R421. -/
theorem test_tagLost : (after (.tagLost false 0#384 false 0#16) inAudio).evq
    = [.callEnd .lost .audio 0#32 0#32 0#32] := by decide +kernel
/-- R420. -/
theorem test_tagEot : (after (.tagEot true 0#384 false 0#16) inAudio).evq
    = [.callEnd .eot .audio 0#32 0#32 0#32] := by decide +kernel
/-- P2's last command. -/
theorem test_rxInject_lost : (after (.rxInject 3#3 false) inAudio).res0 = 0#32 := by decide +kernel
/-- RXS-9. -/
theorem test_rxInject_tag5 : (after (.rxInject 5#3 false) State.reset).evq = [.error .badOp] := by
  decide +kernel
theorem test_rxReset : (after .rxReset inAudio).rx = RxUnit.initial := by decide +kernel

/-- TXB-1's end state. -/
def txStarted : State := after .txStart (memWrite spTxLsf 0 (bytesOfSeq (lsfCovered lsfEx)) State.reset)

/-- TXB-1. -/
theorem test_txStart : txStarted.tx.hdrLsf = lsfEx ∧ txStat txStarted = 1#32 := by decide +kernel
/-- TXB-2. -/
theorem test_txPayload :
    txStat (after (.txPayload false) txStarted) = 0x00010012#32 ∧
      ((after (.txPayload false) txStarted).txq.map TxEntry.tag) = [0#3, 1#3] := by decide +kernel
/-- TXB-3's `RES0`, here of the first payload. -/
theorem test_txPayload_eos : (after (.txPayload true) txStarted).res0 = 0x8000#32 := by decide +kernel
/-- TXB-6. -/
theorem test_txEnd : (after .txEnd txStarted).tx.state = .none ∧ (after .txEnd txStarted).txq = [] := by
  decide +kernel
/-- TXB-5, of TX_END. -/
theorem test_txEnd_none : (after .txEnd State.reset).err = 0x100000#32 := by decide +kernel
theorem test_txNextLsf : (after .txNextLsf State.reset).tx.nextPending = true := by decide +kernel

/-- A link in OPEN with version 1. -/
def linkOpened : State :=
  { State.reset with
    link := { LinkUnit.initial with state := .opened, portOpen := true, protoVersion := 1#8 }
    timers := { Timers.initial with poll := timerStart, wd := timerStart } }

/-- A link that waits for SET_FREQ's ACK. -/
def linkFreq : State :=
  { State.reset with
    link := { LinkUnit.initial with
      state := .freq, portOpen := true, protoVersion := 1#8, pendValid := true, pendCmd := 0x04#8, tries := 1#8 }
    timers := { Timers.initial with resp := timerStart } }

/-- A link that waits for SET_CONFIG's ACK. -/
def linkConfig : State :=
  { linkFreq with link := { linkFreq.link with state := .config, pendCmd := 0x02#8 } }

/-- A link that waits for the version reply. -/
def linkVersion : State :=
  { linkFreq with link := { linkFreq.link with state := .version, pendCmd := 0x00#8, protoVersion := 0#8 } }

/-- P3, the command and the five ticks, each from the state the rules give before it. -/
theorem test_linkOpen : (after .linkOpen State.reset).link.state = .version := by decide +kernel
theorem test_linkClose : (after .linkClose linkOpened).evq = [.link .closed 0#8] := by decide +kernel
/-- SFE-3. -/
theorem test_linkSetMode :
    (after (.linkSetMode 0x07#8) linkOpened).serialOut = [0xE0#8, 0x04#8, 0x03#8, 0x07#8] := by decide +kernel
theorem test_serGetVersion : (after (.serGetVersion [1#8]) linkVersion).link.state = .config ∧
    (after (.serGetVersion [1#8]) linkVersion).serialOut = [0xE0#8, 0x03#8, 0x02#8] := by decide +kernel
theorem test_serGetVersion_bad : (after (.serGetVersion [3#8]) linkVersion).evq = [.error .badVersion] := by
  decide +kernel
/-- SFE-9. -/
theorem test_serGetStatus : (after (.serGetStatus [0#8, 0#8, 7#8]) linkOpened).link.space = 7#8 ∧
    (after (.serGetStatus [0#8, 0#8, 7#8]) linkOpened).timers.wd.run = false := by decide +kernel
/-- SFE-18. -/
theorem test_serSetConfig : (after (.serSetConfig []) linkOpened).err = 0x400#32 := by decide +kernel
theorem test_serSetMode : (after (.serSetMode [7#8]) linkOpened).evq = [.error .serUnknown] := by decide +kernel
theorem test_serSetFreq : (after (.serSetFreq []) linkOpened).evq = [.error .serUnknown] := by decide +kernel
theorem test_serM17LinkSetup :
    (after (.serM17LinkSetup (bytesOfSeq hdrEx)) linkOpened).rxq = [⟨0#3, true, hdrEx, false, 0#16⟩] := by
  decide +kernel
/-- SFE-13. -/
theorem test_serM17Stream :
    (after (.serM17Stream (bytesOfSeq strEx ++ [0x12#8, 0x34#8])) linkOpened).rxq
      = [⟨1#3, true, strEx, true, 0x1234#16⟩] := by decide +kernel
/-- SFE-14. -/
theorem test_serM17Stream_length :
    (after (.serM17Stream (List.replicate 13 0#8)) linkOpened).err = 0x200#32 := by decide +kernel
theorem test_serM17Packet :
    (after (.serM17Packet (bytesOfSeq strEx)) linkOpened).rxq = [⟨2#3, true, strEx, false, 0#16⟩] := by
  decide +kernel
/-- SFE-15. -/
theorem test_serM17Lost : (after (.serM17Lost []) linkOpened).rxq = [⟨3#3, false, 0#384, false, 0#16⟩] := by
  decide +kernel
/-- P3, tick 4. -/
theorem test_serAck : (after (.serAck [0x04#8]) linkFreq).link.state = .opened ∧
    (after (.serAck [0x04#8]) linkFreq).serialOut = [0xE0#8, 0x03#8, 0x01#8] := by decide +kernel
/-- SFE-16's neighbour: nothing awaits the ACK. -/
theorem test_serAck_unawaited : after (.serAck [0x04#8]) linkOpened = linkOpened := by decide +kernel
theorem test_serNak : (after (.serNak [0x02#8, 0x05#8]) linkConfig).link.state = .closed ∧
    (after (.serNak [0x02#8, 0x05#8]) linkConfig).link.lastNak = 0x05#8 := by decide +kernel
/-- SFE-16. -/
theorem test_serNak_unawaited : after (.serNak [3#8, 2#8]) linkOpened = linkOpened := by decide +kernel
theorem test_serDebug1 : (after (.serDebug1 []) State.reset).evq = [.debug 0xF1#8 0#8] := by decide +kernel
theorem test_serDebug2 : (after (.serDebug2 []) State.reset).evq = [.debug 0xF2#8 0#8] := by decide +kernel
/-- SFE-17, of a link in CLOSED (R527). -/
theorem test_serDebug3 : (after (.serDebug3 [0x41#8]) State.reset).evq = [.debug 0xF3#8 1#8] := by
  decide +kernel
theorem test_serDebug4 : (after (.serDebug4 []) State.reset).evq = [.debug 0xF4#8 0#8] := by decide +kernel
theorem test_serDebug5_long : (after (.serDebug5 (List.replicate 300 0#8)) State.reset).evq
    = [.debug 0xF5#8 255#8] := by decide +kernel

/-- HP-1. -/
theorem test_rd_id : (after (.rd 0#8) State.reset).portOut = 0x4D313701#32 := by decide +kernel
/-- HP-3. -/
theorem test_rd_reserved : (after (.rd 0x0F#8) State.reset).err = 2#32 := by decide +kernel
/-- HP-2. -/
theorem test_wr_ctrl : (after (.wr 1#8 0xFFFFFFFF#32) State.reset).ctrl = 0x000303F1#32 := by decide +kernel
/-- HP-5. -/
theorem test_wr_len : (after (.wr 0x0C#8 1000#32) State.reset).cfg1Len = 256#9 := by decide +kernel
/-- HP-8. -/
theorem test_bwr_brd :
    (after (.brd 7#8 3#16) (after (.bwr 7#8 3#16 0xAB#8) State.reset)).portOut = 0xAB#32 := by decide +kernel
/-- HP-6. -/
theorem test_brd_past_end : (after (.brd 8#8 512#16) State.reset).err = 2#32 := by decide +kernel
/-- HP-7. -/
theorem test_bwr_read_only : (after (.bwr 2#8 0#16 0x12#8) State.reset).err = 2#32 := by decide +kernel
theorem test_nop : after .nop inAudio = inAudio := by decide +kernel
/-- HP-12. -/
theorem test_evPop : (after .evPop (raise .badOp State.reset)).res0 = 0x601#32 ∧
    memRead spEvBuf 0 4 (after .evPop (raise .badOp State.reset)) = [6#8, 1#8, 0#8, 0#8] := by decide +kernel
/-- HP-13. -/
theorem test_plPop : (after .plPop (pushPlq ⟨5#16, .audio, 0#16, 1#128⟩ State.reset)).res0 = 21#32 ∧
    memRead spPlBuf 0 5 (after .plPop (pushPlq ⟨5#16, .audio, 0#16, 1#128⟩ State.reset))
      = [0#8, 5#8, 2#8, 0#8, 0#8] := by decide +kernel
/-- HP-14: a full event FIFO. -/
theorem test_event_overflow :
    (raise .badAddr (raise .badOp (State.resetWith { Params.illustrative with evqCap := 1 }))).err
      = 0x00040003#32 := by decide +kernel

/-! ### Steps -/

/-- The state a step answers. -/
def stepped (s : State) : State :=
  match step s with
  | .next t => t
  | .fault _ => State.reset
  | .refused _ => State.reset

/-- P1's first word runs as the first instruction after reset. -/
theorem test_step_command : (stepped (State.reset.withFetchWord 32 0x01000123)).res0 = 0x001230AC#32 := by
  decide +kernel
theorem test_step_port : (stepped (State.reset.withFetchWord 64 0)).portOut = 0x4D313701#32 := by decide +kernel
theorem test_step_serial : (stepped (State.reset.withFetchWord 8 0xF3)).evq = [.debug 0xF3#8 0#8] := by
  decide +kernel
theorem test_step_tag : (stepped (State.reset.withFetchWord 3 3)).rxq = [] := by decide +kernel
/-- SFE-10: a bad length, then an unknown type. -/
theorem test_step_framing :
    (stepped { linkOpened with
      inputs := [.tick 0 [0xE0#8, 0x01#8, 0xE0#8, 0x05#8, 0x99#8, 0xAA#8, 0xBB#8] true] }).err = 0x500#32 := by
  decide +kernel
/-- R9: the framing bytes and the type codes are the configuration's. -/
def otherCodes : SerialCodes :=
  { SerialCodes.standard with start := 0x55#8, lenEscape := 0x02#8, len2Bias := 200, debug1 := 0x10#8 }
theorem test_step_other_codes :
    (stepped { linkOpened with
      cfg := { linkOpened.cfg with serial := otherCodes }
      inputs := [.tick 0 ([0xE0#8, 0x55#8, 0x02#8, 57#8, 0x10#8] ++ List.replicate 253 7#8) true] }).evq
      = [.debug 0x10#8 253#8] := by decide +kernel
/-- R515: a frame longer than `RXBUF_CAP` is consumed and dropped. -/
theorem test_step_oversize :
    (stepped { linkOpened with
      cfg := { linkOpened.cfg with rxbufCap := 5 }
      inputs := [.tick 0 [0xE0#8, 0x06#8, 0xF1#8, 1#8, 2#8, 3#8, 0xE0#8, 0x03#8, 0xF2#8] true] }).evq
      = [.error .serLen, .debug 0xF2#8 0#8] := by decide +kernel
/-- P5, tick 2. -/
theorem test_step_watchdog :
    linkStat (stepped { linkOpened with inputs := [.tick 1000 [] true] }) = 0x0000001D#32 := by decide +kernel

/-! ### Witnesses: the hypotheses of each obligation can be met -/

theorem test_witness_DecodeInvertsEncode :
    (Instr.bwr 7#8 47#16 0x42#8).wellFormed = true ∧ (Instr.crc16 1023#10).wellFormed = true ∧
      (Instr.serSetConfig (List.replicate 506 7#8)).wellFormed = true ∧
      (Instr.tagLost false 0#384 true 5#16).wellFormed = true := by decide +kernel

theorem test_witness_UnexpectedSerialTypesDropped :
    0x05#8 ∉ SerialCodes.standard.types ∧ SerialCodes.standard.wf = true ∧ otherCodes.wf = true ∧
      0x04#8 ∈ [SerialCodes.standard.setConfig, SerialCodes.standard.setMode, SerialCodes.standard.setFreq] := by
  decide +kernel

theorem test_witness_StepRunsPortInstruction :
    ({ State.reset with inputs := [.port 0x4400000001000123#64] } : State).inputs
        = .port 0x4400000001000123#64 :: [] ∧
      decode (.port 0x4400000001000123#64) = .ok (.wr 0x10#8 0x01000123#32) := ⟨rfl, rfl⟩

/-- Each bound of the reserved codes, and the codes beside them. -/
theorem test_witness_CommandWriteRunsCommand :
    decode (.cmd 0x41000000#32) = .ok .plPop ∧ decode (.cmd 0x42000000#32) = .error .reservedOp ∧
      decode (.cmd 0xFF000000#32) = .error .reservedOp ∧
      decode (.cmd 0x11000000#32) = .ok .rxReset ∧ decode (.cmd 0x12000000#32) = .error .reservedOp ∧
      decode (.cmd 0x1F000000#32) = .error .reservedOp ∧ decode (.cmd 0x20000000#32) = .ok .txStart ∧
      decode (.cmd 0x24000000#32) = .error .reservedOp ∧ decode (.cmd 0x2F000000#32) = .error .reservedOp ∧
      decode (.cmd 0x33000000#32) = .error .reservedOp ∧ decode (.cmd 0x3F000000#32) = .error .reservedOp :=
  ⟨rfl, rfl, rfl, rfl, rfl, rfl, rfl, rfl, rfl, rfl, rfl⟩

/-- A short frame, and the longest one of a buffer that just holds it; and codes other than the defaults. -/
theorem test_witness_StepRunsSerialFrame :
    linkOpened.cfg.serial.wf = true ∧ linkOpened.link.portOpen = true ∧ linkOpened.parser.pos = .start ∧
      linkOpened.parser.buf.length = linkOpened.cfg.rxbufCap ∧
      (serFrame 0x70#8 [0x04#8] linkOpened.cfg.serial).length ≤ linkOpened.cfg.rxbufCap ∧
      decode (.ser (serFrame 0x70#8 [0x04#8] linkOpened.cfg.serial)) linkOpened.cfg.serial =
        .ok (.serAck [0x04#8]) ∧
      (List.replicate 506 0#8).length ≤ 251 + linkOpened.cfg.serial.len2Bias ∧
      (serFrame 0xF1#8 (List.replicate 506 0#8) linkOpened.cfg.serial).length = linkOpened.cfg.rxbufCap ∧
      decode (.ser (serFrame 0xF1#8 (List.replicate 506 0#8) linkOpened.cfg.serial)) linkOpened.cfg.serial =
        .ok (.serDebug1 (List.replicate 506 0#8)) ∧
      decode (.ser (serFrame 0x10#8 (List.replicate 300 0#8) otherCodes)) otherCodes =
        .ok (.serDebug1 (List.replicate 300 0#8)) :=
  ⟨by decide +kernel, rfl, rfl, by decide +kernel, by decide +kernel, rfl, by decide +kernel, by decide +kernel,
    rfl, rfl⟩

/-- A tick that brings an M17_LOST frame and then an M17_STREAM frame leaves two records for phase 3. -/
theorem test_witness_StepRunsQueuedTag :
    ∃ (s : State) (bytes : List Byte) (e e' : TaggedFrame), s.inputs = .tick 40 bytes true :: [] ∧
      (parseBytes bytes (advanceTimers 40 { s with inputs := [], serialOut := [] })).rxq = e :: [e'] ∧
      decode (.tag e) = .ok (.tagLost false 0#384 false 0#16) :=
  ⟨{ linkOpened with inputs :=
        [.tick 40 ([0xE0#8, 0x03#8, 0x48#8, 0xE0#8, 0x33#8, 0x46#8] ++ bytesOfSeq strEx) true] }, _,
    ⟨3#3, false, 0#384, false, 0#16⟩, ⟨1#3, true, strEx, false, 0#16⟩, rfl, by decide +kernel, rfl⟩

/-- One byte short of the longest frame; noise; both bad lengths; a buffer one byte short of its frame. -/
theorem test_witness_PartialFrameDispatchesNothing :
    (linkOpened.cfg.serial.wf = true ∧ linkOpened.parser.pos = .start ∧
      (List.replicate 506 0#8).length ≤ 251 + linkOpened.cfg.serial.len2Bias ∧
      509 < (serFrame 0xF1#8 (List.replicate 506 0#8) linkOpened.cfg.serial).length) ∧
    0xE1#8 ≠ linkOpened.cfg.serial.start ∧
    ((parserAt .length1 linkOpened).parser.pos = .length1 ∧ 1#8 ≠ linkOpened.cfg.serial.lenEscape ∧
      2#8 ≠ linkOpened.cfg.serial.lenEscape) ∧
    ∃ s : State, s.cfg.serial.wf = true ∧ s.parser.pos = .start ∧
      s.cfg.rxbufCap < (serFrame 0xF1#8 (List.replicate 506 0#8) s.cfg.serial).length :=
  ⟨by decide +kernel, by decide, by decide +kernel,
    State.resetWith { Params.illustrative with rxbufCap := 509 }, by decide +kernel, rfl, by decide +kernel⟩

theorem test_witness_GolayDecoderIsBoundedDistance_within :
    popcount (golayEncode Codec.standard.golayPoly 0x123#12 ^^^ 0x9231AD#24) = 3 := by decide +kernel

/-- Data of up to three bits gives a codeword more than three bits from `00000F`. -/
theorem test_data_near_00000F : (dataErrors.all fun e =>
    decide (3 < popcount (golayEncode Codec.standard.golayPoly e ^^^ 0x00000F#24))) = true := by decide +kernel
/-- GOL-18: no codeword lies within three bits. -/
theorem test_witness_GolayDecoderIsBoundedDistance_beyond (d : BitVec 12) :
    3 < popcount (golayEncode Codec.standard.golayPoly d ^^^ 0x00000F#24) := by
  by_cases h : popcount d ≤ 3
  · simpa using List.all_eq_true.mp test_data_near_00000F d ((mem_dataErrors d).mpr h)
  · have e : (golayEncode Codec.standard.golayPoly d ^^^ 0x00000F#24).extractLsb' 12 12 = d := by
      unfold golayEncode
      ext i hi
      have h1 : 12 + i < 24 := by omega
      have h2 : 11 + i < 23 := by omega
      have hp (n : Nat) : (BitVec.ofNat 24 (n % 2))[12 + i] = false := by
        rw [← BitVec.getLsbD_eq_getElem, BitVec.getLsbD_ofNat,
          Nat.testBit_lt_two_pow (lt_of_lt_of_le (Nat.mod_lt _ (by decide : 0 < 2))
            (Nat.pow_le_pow_right (by decide : 0 < 2) (by omega : 1 ≤ 12 + i))), Bool.and_false]
      have hm : ∀ k (h : k < 24), 12 ≤ k → (15#24)[k] = false := by decide
      have hm := hm (12 + i) h1 (by omega)
      simp [hi, hp, hm, h1, h2]
    have := popcount_high_le (golayEncode Codec.standard.golayPoly d ^^^ 0x00000F#24)
    rw [e] at this
    omega

theorem test_witness_PunctureKeepsPatternBits :
    (List.replicate 240 true).length = 240 ∧ (List.replicate 144 true).length = 144 := by decide

theorem test_witness_ConvolutionalCommands :
    ∃ (i : Instr) (r : BitVec 144 × Nat × Nat),
      i = .cdecStr ∧ r = decodeData Codec.standard (seqOfBytes 272 (memRead spScrIn 0 34 State.reset)) :=
  ⟨_, _, rfl, rfl⟩

theorem test_witness_CrcRejectsSingleBitErrors :
    0 < 240 ∧ 239 < 240 ∧ crcOk Codec.standard lsfEx = true := ⟨by decide, by decide, test_lsfEx_crc⟩

theorem test_witness_CrcAndLichCommands : (512#10).toNat ≤ 512 ∧ 512 < (513#10).toNat := by decide

/-- A failed codeword, position 6, and position 5. -/
theorem test_witness_FragmentFeed :
    (lichDecode Codec.standard 0xFF097B000000FA1DFCB20264#96).2 ≠ 0b1111#4 ∧
      lichDecode Codec.standard 0x0000000000000000000C0E43#96 = (0x0000000000C0#48, 0b1111#4) ∧
      lichDecode Codec.standard 0x0000000000008E2DC57A0BF0#96 = (0x0000008E27A0#48, 0b1111#4) ∧
      5 < ((0x0000000000C0#48).extractLsb' 5 3).toNat ∧ ((0x0000008E27A0#48).extractLsb' 5 3).toNat ≤ 5 :=
  ⟨by rw [test_ldec_failing]; decide, by decide +kernel, by decide +kernel, by decide, by decide⟩

theorem test_witness_LsfReconstruction :
    crcOk Codec.standard lsfEx = true ∧ (∀ n ∈ [3#3, 0#3, 5#3, 1#3, 4#3, 2#3, 3#3], n.toNat ≤ 5) ∧
      ∀ k, k ≤ 5 → BitVec.ofNat 3 k ∈ [3#3, 0#3, 5#3, 1#3, 4#3, 2#3, 3#3] :=
  ⟨test_lsfEx_crc, by decide, by decide⟩

/-- The codec with another CRC start value: the frames are the same, and `lsfEx` fails its check. -/
def otherCrc : Codec := { Codec.standard with crcInit := 0#16 }

/-- The trellis does not read the CRC's start value. -/
theorem acsRun_crcInit (c : Codec) (x : BitVec 16) (pm : List (Option Nat)) (rows : List (List Bool))
    (z : List Nat) :
    acsRun { c with crcInit := x } pm rows z = acsRun c pm rows z := by
  induction pm, rows, z using acsRun.induct c with
  | case1 pm rows z0 z1 rest row ih => rw [acsRun, acsRun]; exact ih
  | case2 pm rows z h => rw [acsRun, acsRun] <;> exact h
/-- Nor does the encoder. -/
theorem convRun_crcInit (c : Codec) (x : BitVec 16) (σ : BitVec 4) (u : List Bool) :
    convRun { c with crcInit := x } σ u = convRun c σ u := by
  induction u generalizing σ with
  | nil => rfl
  | cons b u ih => simp only [convRun, ih]
/-- So a HEADER's decoding does not depend on it. -/
theorem rxHeader_crcInit (c : Codec) (x : BitVec 16) (f : RfFrame) :
    rxHeader { c with crcInit := x } f = rxHeader c f := by
  simp only [rxHeader, decodeLinkSetup, viterbiDecode, acsRun_crcInit, convEncode, convRun_crcInit, rxBody, hardSymbols]

/-- Accepted; data type 0; the CAN filter's mismatch (RXS-6); a failing check. -/
theorem test_witness_HeaderOutsideCall :
    (State.reset.rx.state = .listening ∧ checkSync State.reset = false ∧ canfEn State.reset = false ∧
      crcOk Codec.standard (rxHeader Codec.standard hdrEx) = true ∧
      callTarget (dataType (rxHeader Codec.standard hdrEx)) = some .audio) ∧
    (crcOk Codec.standard (rxHeader Codec.standard hdrDt0) = true ∧
      dataType (rxHeader Codec.standard hdrDt0) = 0#2) ∧
    (canfEn { State.reset with ctrl := 0x31#32 } = true ∧
      lsfCan (rxHeader Codec.standard hdrEx) ≠ canfVal { State.reset with ctrl := 0x31#32 }) ∧
    crcOk otherCrc (rxHeader otherCrc hdrEx) = false := by
  have h : rxHeader otherCrc hdrEx = lsfEx := (rxHeader_crcInit Codec.standard 0#16 hdrEx).trans test_hdr_decodes
  rw [h, test_hdr_decodes, test_hdr_dt0_decodes]
  decide +kernel

/-- A fragment that leaves the buffer incomplete; one that leaves it valid, accepted, of data type 0, and of
another CAN. -/
theorem test_witness_DataOutsideCall :
    isValid Codec.standard (feedLich Codec.standard .empty (rxLich Codec.standard strEx)).1 = false ∧
    ((feedLich Codec.standard (setWhole lsfEx) (rxLich Codec.standard strEx)).1 = setWhole lsfEx ∧
      isValid Codec.standard (setWhole lsfEx) = true ∧ callTarget (dataType lsfEx) = some .audio) ∧
    ((feedLich Codec.standard (setWhole lsfDt0) (rxLich Codec.standard strEx)).1 = setWhole lsfDt0 ∧
      isValid Codec.standard (setWhole lsfDt0) = true ∧ dataType lsfDt0 = 0#2) ∧
    (dataType lsfEx ≠ 0#2 ∧ canfEn { State.reset with ctrl := 0x31#32 } = true ∧
      lsfCan lsfEx ≠ canfVal { State.reset with ctrl := 0x31#32 }) ∧
    State.reset.rx.state = .listening ∧ checkSync State.reset = false := by
  rw [test_stream_lich]
  decide +kernel

theorem test_witness_DataInCall :
    inAudio.rx.state = .audio ∧ checkSync inAudio = false ∧ eosEnd inAudio = false ∧
      eosEnd inAudioEos = true ∧ (rxData Codec.standard strEx).1.getLsbD 15 = true := by
  rw [test_stream_data]
  decide +kernel

/-- `CHECK_SYNC` set: each frame has the other's sync word. -/
theorem test_witness_SyncCheckAndIgnoredFrames :
    checkSync { State.reset with ctrl := 0x100#32 } = true ∧ checkSync State.reset = false ∧
      strEx.extractLsb' 368 16 ≠ Codec.standard.syncLsf ∧
      hdrEx.extractLsb' 368 16 ≠ Codec.standard.syncStream ∧
      hdrEx.extractLsb' 368 16 = Codec.standard.syncLsf ∧ inAudio.rx.state = .audio := by decide +kernel

theorem test_witness_LostAndEotEndCalls :
    inAudio.rx.state = .audio ∧ State.reset.rx.state = .listening := ⟨rfl, rfl⟩

theorem test_witness_SixFramesMakeLateEntry :
    State.reset.cfg.codec = Codec.standard ∧ State.reset.rx.state = .listening ∧
      State.reset.rx.primary = .empty ∧ crcOk Codec.standard lsfEx = true ∧
      callTarget (dataType lsfEx) = some .audio ∧ canfEn State.reset = false ∧ eosEnd State.reset = false :=
  ⟨rfl, rfl, rfl, test_lsfEx_crc, by decide +kernel, by decide +kernel, by decide +kernel⟩

theorem test_witness_ReceiveCommands : (4#3).toNat ≤ 4 ∧ 4 < (5#3).toNat := by decide

/-- A transmit unit in AUDIO at the last LICH position, with a variant pending. -/
def txInAudio : State :=
  { State.reset with tx := ⟨.audio, lsfEx, true, lsfEx, 5#3, 0x7FFF#15, 0xFFFFFFFF#32⟩ }

theorem test_witness_TransmitCommands :
    State.reset.tx.state = .none ∧ txStarted.tx.state = .header ∧ txInAudio.tx.state = .audio := by
  decide +kernel

theorem test_witness_PayloadCommand :
    State.reset.tx.state = .none ∧ txStarted.tx.state = .header ∧ txStarted.tx.lichPos = 0#3 ∧
      txInAudio.tx.state = .audio ∧ txInAudio.tx.lichPos ≠ 0#3 ∧
      txStarted.txq.length + 2 ≤ txStarted.cfg.txqCap := by
  decide +kernel

theorem test_witness_WholeCallQueuesItsFrames :
    ∃ s : State, s.tx.state = .none ∧ s.txq = [] ∧ 1 + 2 ≤ s.cfg.txqCap :=
  ⟨State.resetWith { Params.illustrative with txqCap := 3 }, rfl, rfl, by decide⟩

theorem test_witness_TransmitAndReceiveIndependent :
    (∃ t, exec (.txPayload true) txInAudio = .next t) ∧ (∃ t, exec (.rxInject 1#3 true) inAudio = .next t) :=
  ⟨exec_is_next _ _, exec_is_next _ _⟩

theorem test_witness_LinkCommands :
    State.reset.link.state = .closed ∧
      ({ State.reset with link := { LinkUnit.initial with state := .backoff } } : State).link.state = .backoff ∧
      (linkFreq.link.state ≠ .closed ∧ linkFreq.link.state ≠ .backoff) ∧
      (linkOpened.link.state = .opened ∧ linkOpened.link.pendValid = false) ∧ linkFreq.link.pendValid = true := by
  decide +kernel

/-- `rxq` full. -/
def linkFull : State :=
  { linkOpened with
    cfg := { linkOpened.cfg with rxqCap := 1 }
    rxq := [⟨3#3, false, 0#384, false, 0#16⟩] }
theorem test_serM17Lost_full : (after (.serM17Lost []) linkFull).err = 0x10000#32 ∧
    (after (.serM17Lost []) linkFull).rxq = linkFull.rxq := by decide +kernel

/-- Payloads of 48, 50 and, between them, 49 bytes; room in `rxq`, and none. -/
theorem test_witness_InboundM17Frames :
    linkOpened.link.state = .opened ∧ linkOpened.rxq.length < linkOpened.cfg.rxqCap ∧
      linkFull.link.state = .opened ∧ ¬linkFull.rxq.length < linkFull.cfg.rxqCap ∧
      (List.replicate 48 0#8).length = 48 ∧
      (List.replicate 50 0#8).length = 50 ∧
      ((List.replicate 49 0#8).length ≠ 48 ∧ (List.replicate 49 0#8).length ≠ 50) ∧
      State.reset.link.state ≠ .opened := by decide +kernel

theorem test_witness_VersionReplies :
    linkVersion.link.state = .version ∧ linkVersion.link.pendValid = true ∧ 2#8 ∈ linkVersion.cfg.versions ∧
      3#8 ∉ linkVersion.cfg.versions ∧ linkOpened.link.state ≠ .version := by decide +kernel

theorem test_witness_StatusAndDebugFrames :
    linkOpened.link.state = .opened ∧ linkOpened.cfg.statusLayout1.minLen ≤ [0#8, 0#8, 5#8].length ∧
      [0#8, 0#8].length < linkOpened.cfg.statusLayout1.minLen ∧ State.reset.link.state ≠ .opened := by
  decide +kernel

/-- SET_MODE awaits its reply. -/
def linkMode : State :=
  { linkOpened with link := { linkOpened.link with pendValid := true, pendCmd := 0x03#8, tries := 1#8 } }

/-- The commands an ACK or NAK answers. -/
def ackedCodes : List Byte :=
  [SerialCodes.standard.setConfig, SerialCodes.standard.setMode, SerialCodes.standard.setFreq]

theorem test_witness_AckReplies :
    (linkConfig.link.pendValid = true ∧ linkConfig.link.pendCmd ∈ ackedCodes ∧
        linkConfig.link.state = .config) ∧
      (linkFreq.link.pendValid = true ∧ linkFreq.link.pendCmd ∈ ackedCodes ∧
        linkFreq.link.state = .freq) ∧
      (linkMode.link.pendValid = true ∧ linkMode.link.pendCmd ∈ ackedCodes ∧
        linkMode.link.state = .opened) ∧
      linkOpened.link.pendValid = false ∧ linkVersion.link.pendCmd ∉ ackedCodes := by
  decide +kernel

theorem test_witness_NakRepliesAndOpenFailure :
    (linkConfig.link.pendValid = true ∧ linkConfig.link.pendCmd ∈ ackedCodes ∧
        linkConfig.link.state = .config) ∧
      (linkMode.link.pendValid = true ∧ linkMode.link.pendCmd ∈ ackedCodes ∧
        linkMode.link.state = .opened) ∧
      linkVersion.link.pendCmd ∉ ackedCodes := by decide +kernel

/-- A frame queued behind `space` units of credit, the pacing timer at `el`. -/
def linkDrain (space : Byte) (el : BitVec 32) : State :=
  { linkOpened with
    link := { linkOpened.link with space := space }
    timers := { linkOpened.timers with pace := ⟨true, el⟩ }
    txq := [⟨4#3, 0#384⟩] }

/-- Two units at `T_PACE`; one unit; one millisecond early. The writer's form changes at 252 bytes. -/
theorem test_witness_CreditPacedDrain :
    ((linkDrain 2#8 40#32).link.state = .opened ∧ 1 < (linkDrain 2#8 40#32).link.space.toNat ∧
      (linkDrain 2#8 40#32).cfg.tPace ≤ (linkDrain 2#8 40#32).timers.pace.el.toNat ∧
      (linkDrain 2#8 40#32).txq = [⟨4#3, 0#384⟩]) ∧
    (linkDrain 1#8 40#32).link.space.toNat ≤ 1 ∧
    (linkDrain 2#8 39#32).timers.pace.el.toNat < (linkDrain 2#8 39#32).cfg.tPace ∧
    (List.replicate 252 0#8).length ≤ 252 ∧ 252 < (List.replicate 253 0#8).length ∧
    (List.replicate 256 0#8).length ≤ 256 := by decide +kernel

/-- The watchdog one tick short of `T_WD`. -/
def linkWatched : State :=
  { linkOpened with
    timers := { linkOpened.timers with wd := ⟨true, 999#32⟩ }, inputs := [.tick 1 [] false] }

/-- BACKOFF at the end of its wait. -/
def linkBackoff : State :=
  { State.reset with
    link := { LinkUnit.initial with state := .backoff, linkErr := true, autoReopen := true }
    timers := { Timers.initial with backoff := ⟨true, 0#32⟩ }
    inputs := [.tick 2000 [] true] }

theorem test_witness_WatchdogClosesAndReopens :
    (linkWatched.inputs = .tick 1 [] false :: [] ∧ linkWatched.rxq = [] ∧ linkWatched.link.state = .opened ∧
      linkWatched.timers.wd.run = true ∧
      linkWatched.cfg.tWd ≤ min (linkWatched.timers.wd.el.toNat + 1) (2 ^ 32 - 1) ∧
      linkWatched.timers.resp.run = false ∧ linkWatched.timers.backoff.run = false ∧
      linkWatched.evq.length + 2 ≤ linkWatched.cfg.evqCap) ∧
    (linkBackoff.inputs = .tick 2000 [] true :: [] ∧ linkBackoff.rxq = [] ∧ linkBackoff.link.state = .backoff ∧
      linkBackoff.link.portOpen = false ∧ linkBackoff.timers.backoff.run = true ∧
      linkBackoff.cfg.tBackoff ≤ min (linkBackoff.timers.backoff.el.toNat + 2000) (2 ^ 32 - 1) ∧
      0 < linkBackoff.cfg.tResp ∧ linkBackoff.timers.wd.run = false ∧ linkBackoff.timers.poll.run = false) := by
  decide +kernel

/-- An outstanding command after `tries` attempts, its response timer at `el`. -/
def linkDue (st : LinkState) (cmd tries : Byte) (el : BitVec 32) : State :=
  { linkFreq with
    link := { linkFreq.link with state := st, pendCmd := cmd, tries := tries }
    timers := { Timers.initial with resp := ⟨true, el⟩, poll := ⟨true, el⟩ } }

/-- The timers' other clauses: a response a millisecond early; the last resend of each command, and giving up;
SET_MODE unanswered; a port to open, and one open; a poll due, and one early. -/
theorem test_witness_WatchdogClosesAndReopens_timers :
    linkFreq.cfg.serial.wf = true ∧
    (linkDue .freq 0x04#8 2#8 499#32).timers.resp.el.toNat < linkFreq.cfg.tResp ∧
    (linkDue .freq 0x04#8 2#8 500#32).cfg.tResp ≤ (linkDue .freq 0x04#8 2#8 500#32).timers.resp.el.toNat ∧
    (linkDue .freq 0x04#8 2#8 500#32).link.tries.toNat < linkFreq.cfg.nAck ∧
    linkFreq.cfg.nAck ≤ (linkDue .freq 0x04#8 3#8 500#32).link.tries.toNat ∧
    (linkDue .config 0x02#8 2#8 500#32).link.pendCmd = linkFreq.cfg.serial.setConfig ∧
    (linkDue .version 0x00#8 2#8 500#32).link.pendCmd = linkFreq.cfg.serial.getVersion ∧
    (linkDue .opened 0x03#8 1#8 500#32).link.state = .opened ∧
    ((after .linkOpen State.reset).link.state = .version ∧ (after .linkOpen State.reset).link.portOpen = false) ∧
    linkVersion.link.portOpen = true ∧
    linkFreq.cfg.tPoll ≤ (linkDue .opened 0x03#8 1#8 250#32).timers.poll.el.toNat ∧
    (linkDue .opened 0x03#8 1#8 249#32).timers.poll.el.toNat < linkFreq.cfg.tPoll := by decide +kernel

/-- R530: the command is sent again, and after the last attempt the open fails. -/
theorem test_respTimeout :
    (respAction (linkDue .version 0x00#8 2#8 500#32)).serialOut = [0xE0#8, 0x03#8, 0x00#8] ∧
      (respAction (linkDue .version 0x00#8 3#8 500#32)).err = 0x401000#32 ∧
      (respAction (linkDue .version 0x00#8 3#8 500#32)).link.state = .closed := by decide +kernel

theorem test_witness_OnlyAckOpensLink :
    ∃ t, exec (.serAck [0x04#8]) linkFreq = .next t ∧ linkFreq.link.state ≠ .opened ∧ t.link.state = .opened :=
  ⟨_, rfl, by decide +kernel, by decide +kernel⟩

theorem test_witness_linkOk_idle : linkOk State.reset ∧ linkOk linkBackoff :=
  ⟨⟨by decide, by decide, by decide, ⟨rfl, rfl, rfl, rfl, rfl, rfl, rfl⟩, rfl, rfl⟩,
    ⟨by decide, by decide, by decide, ⟨rfl, rfl, rfl, rfl, rfl, rfl, rfl⟩, rfl⟩⟩

theorem test_witness_linkOk_open :
    linkOk linkVersion ∧ linkOk linkConfig ∧ linkOk linkFreq ∧ linkOk linkWatched :=
  ⟨⟨by decide, by decide, by decide, .inr ⟨⟨rfl, rfl, rfl, rfl, rfl, rfl, rfl, rfl⟩, rfl⟩⟩,
    ⟨by decide, by decide, by decide, ⟨rfl, rfl, rfl, rfl, rfl, rfl, rfl, rfl⟩, by decide⟩,
    ⟨by decide, by decide, by decide, ⟨rfl, rfl, rfl, rfl, rfl, rfl, rfl, rfl⟩, by decide⟩,
    ⟨by decide, by decide, by decide, rfl, by decide, by decide, rfl, rfl, rfl, rfl, rfl⟩⟩

theorem test_witness_ClosedPortWritesNothing :
    linkOk State.reset ∧ State.reset.link.portOpen = false ∧ ∃ t, exec .linkOpen State.reset = .next t :=
  ⟨test_witness_linkOk_idle.1, rfl, exec_is_next _ _⟩

theorem test_witness_RegisterReads : 0x13 ≤ (0x13#8).toNat ∧ 0x13 ≤ (0xFF#8).toNat := by decide

theorem test_witness_RegisterWrites :
    0x00#8 ∉ [0x01#8, 0x02#8, 0x0C#8, 0x0D#8, 0x0E#8, 0x10#8] ∧
      0x13#8 ∉ [0x01#8, 0x02#8, 0x0C#8, 0x0D#8, 0x0E#8, 0x10#8] := by decide

/-- The last byte of a writable and of a read-only space, the first past each, and a reserved space. -/
theorem test_witness_BufferByteAccess :
    (7#8, 512, true) ∈ [((7 : Byte), 512, true)] ∧ (511#16).toNat < 512 ∧ 512 ≤ (512#16).toNat ∧
      (29#16).toNat < 30 ∧ 30 ≤ (30#16).toNat ∧ 13 ≤ (13#8).toNat := by decide

theorem test_witness_FifoPops :
    State.reset.evq = [] ∧ State.reset.plq = [] ∧ (raise .badOp State.reset).evq = .error .badOp :: [] ∧
      (pushPlq ⟨5#16, .audio, 0#16, 1#128⟩ State.reset).plq = ⟨5#16, .audio, 0#16, 1#128⟩ :: [] := by
  decide +kernel

/-- Room in the event FIFO, and none. -/
theorem test_witness_ErrorsAreRecorded :
    State.reset.evq.length < State.reset.cfg.evqCap ∧
      ∃ s : State, s.cfg.evqCap = 1 ∧ s.cfg.evqCap ≤ s.evq.length :=
  ⟨by decide +kernel,
    raise .badOp (State.resetWith { Params.illustrative with evqCap := 1 }), rfl, by decide +kernel⟩

theorem test_witness_ResetAndInterruptLine :
    ({ inAudio with inputs := [.reset] } : State).inputs = .reset :: [] := rfl

/-- Every step invariant's premises, with a step that is not idle. -/
theorem test_witness_StepKeeps :
    Memory.wf (scrIn lsfEx).mem ∧ registerFieldsOk inAudioEos ∧ transmitOk txInAudio ∧
      queuesOk (linkDrain 2#8 40#32) ∧ (∃ t, step linkWatched = .next t) ∧
      ∃ t, step { inAudio with inputs := [.port 0x4400000010000003#64] } = .next t := by
  refine ⟨by decide +kernel, ?_, ?_, ?_, ⟨_, rfl⟩, ⟨_, rfl⟩⟩
  · simp only [registerFieldsOk]; decide +kernel
  · simp only [transmitOk]; decide +kernel
  · simp only [queuesOk]; decide +kernel

/-- The parser between frames, in a header, and before the last byte of the longest frame. -/
theorem test_witness_parserOk :
    parserOk State.reset ∧
      parserOk { State.reset with parser := { State.reset.parser with pos := .type, off := 3#16, len := 510#16 } } ∧
      parserOk { State.reset with parser := { State.reset.parser with pos := .data, off := 509#16, len := 510#16 } } :=
  ⟨⟨⟨by decide, by decide⟩, by decide +kernel, trivial⟩, ⟨⟨by decide, by decide⟩, by decide +kernel, .inr (by decide)⟩,
    ⟨by decide, by decide⟩, by decide +kernel, by decide⟩

theorem test_witness_receiveOk : receiveOk State.reset ∧ receiveOk inAudio :=
  ⟨⟨rfl, rfl⟩, ⟨by decide +kernel, by decide +kernel, by decide +kernel⟩⟩

theorem test_witness_ResetMeetsInvariants : Params.illustrative.wf = true := by decide +kernel

end Sys2Proof.Tests
end

section
/-! ### What the commands of unit CNV do (43_convolutional.md) -/

namespace Sys2Proof.Machine

/-! #### Results in `SCR_OUT`, `RES0` and `RES1` -/

/-- Storing in `SCR_OUT` changes the memory and no other field. -/
theorem putScrOut_frame {n : Nat} (v : BitVec n) (s : State) :
    putScrOut v s = { s with mem := (putScrOut v s).mem } := rfl

theorem putScrOut_storesBytes {n : Nat} (v : BitVec n) (s : State) :
    storesBytes s (putScrOut v s) (cellAddr spScrOut 0) (bytesOfSeq v) := fun a => by
  rw [putScrOut_mem]
  exact Memory.read_writeBytes (bytesOfSeq v) s.mem (cellAddr spScrOut 0) a

/-- The result registers have no part in the memory. -/
@[simp] theorem putDecoded_mem {n : Nat} (r : BitVec n × Nat × Nat) (s : State) :
    (putDecoded r s).mem = (putScrOut r.1 s).mem := rfl

/-- R330: a decode command's results change the memory, `RES0` and `RES1`, and no other field. -/
theorem putDecoded_frame {n : Nat} (r : BitVec n × Nat × Nat) (s : State) :
    putDecoded r s = { s with
      mem := (putDecoded r s).mem
      res0 := BitVec.ofNat 32 (min r.2.1 (2 ^ 32 - 1))
      res1 := BitVec.ofNat 32 r.2.2 } := rfl

theorem putDecoded_storesBytes {n : Nat} (r : BitVec n × Nat × Nat) (s : State) :
    storesBytes s (putDecoded r s) (cellAddr spScrOut 0) (bytesOfSeq r.1) := fun a => by
  rw [putDecoded_mem]
  exact putScrOut_storesBytes r.1 s a

/-! #### What each command answers -/

/-- R319. -/
theorem exec_cencLsf (s : State) :
    exec .cencLsf s =
      .next (putScrOut (encodeLinkSetup s.cfg.codec (seqOfBytes 240 (memRead spScrIn 0 30 s))) s) := rfl

/-- R332. -/
theorem exec_cencStr (s : State) :
    exec .cencStr s =
      .next (putScrOut (encodeData s.cfg.codec (seqOfBytes 144 (memRead spScrIn 0 18 s))) s) := rfl

/-- R330. -/
theorem exec_cdecLsf (s : State) :
    exec .cdecLsf s =
      .next (putDecoded (decodeLinkSetup s.cfg.codec (seqOfBytes 368 (memRead spScrIn 0 46 s))) s) := rfl

/-- R333. -/
theorem exec_cdecStr (s : State) :
    exec .cdecStr s =
      .next (putDecoded (decodeData s.cfg.codec (seqOfBytes 272 (memRead spScrIn 0 34 s))) s) := rfl

/-- R331: the symbols are the clamped bytes of `SCR_IN`. -/
theorem exec_cdecLsfSoft (s : State) (v : List Bool × Nat × Nat)
    (hv : v = viterbiDecode s.cfg.codec s.cfg.codec.punctP1 240 (scrInSymbols 368 s)) :
    exec .cdecLsfSoft s = .next (putDecoded (seqOfBits 240 v.1, v.2.1, v.2.2) s) := by
  rw [hv]; rfl

/-- R334: the symbols are the clamped bytes of `SCR_IN`, the data bits put in their slots (log 22). -/
theorem exec_cdecStrSoft (s : State) (v : List Bool × Nat × Nat)
    (hv : v = viterbiDecode s.cfg.codec s.cfg.codec.punctP2 s.cfg.codec.blockBits (scrInSymbols 272 s)) :
    exec .cdecStrSoft s = .next (putDecoded (slotsOfBlock s.cfg.codec v.1, v.2.1, v.2.2) s) := by
  rw [hv]; rfl

/-! #### The effect of a coding and of a decoding command -/

/-- An instruction that stores `v` in `SCR_OUT` completes, and changes nothing else. -/
theorem exec_effect_of_putScrOut {n : Nat} {i : Instr} {v : BitVec n} {s : State}
    (h : exec i s = .next (putScrOut v s)) :
    ∃ t, exec i s = .next t ∧ t = { s with mem := t.mem } ∧
      storesBytes s t (cellAddr spScrOut 0) (bytesOfSeq v) :=
  ⟨_, h, putScrOut_frame v s, putScrOut_storesBytes v s⟩

/-- An instruction that puts the decoding `r` in its places completes, and changes nothing else. -/
theorem exec_effect_of_putDecoded {n : Nat} {i : Instr} {r : BitVec n × Nat × Nat} {s : State}
    (h : exec i s = .next (putDecoded r s)) :
    ∃ t, exec i s = .next t ∧
      t = { s with
        mem := t.mem
        res0 := BitVec.ofNat 32 (min r.2.1 (2 ^ 32 - 1))
        res1 := BitVec.ofNat 32 r.2.2 } ∧
      storesBytes s t (cellAddr spScrOut 0) (bytesOfSeq r.1) :=
  ⟨_, h, putDecoded_frame r s, putDecoded_storesBytes r s⟩

/-- R318: the default stream block codes all 144 bits. -/
theorem encodeData_standard (fb : BitVec 144) :
    encodeData Codec.standard fb =
      seqOfBits 272 (puncture Codec.standard.punctP2 (convEncode Codec.standard (seqBits fb))) := by
  rw [encodeData, blockOfSlots_standard]

/-- Settles O20: the commands are `putScrOut` of the coded and `putDecoded` of the decoded block, whose effect is
known. -/
theorem convolutionalCommands : Obligations.ConvolutionalCommands := by
  unfold Obligations.ConvolutionalCommands
  intro s c soft slots
  refine ⟨⟨rfl, rfl, encodeData_standard, fun _ => rfl⟩, exec_effect_of_putScrOut (exec_cencLsf s),
    exec_effect_of_putScrOut (exec_cencStr s), fun r i hi => exec_effect_of_putDecoded ?lsf,
    fun r i hi => exec_effect_of_putDecoded ?str⟩
  case lsf =>
    obtain ⟨rfl, rfl⟩ | ⟨rfl, v, hv, rfl⟩ := hi
    · exact exec_cdecLsf s
    · exact exec_cdecLsfSoft s v hv
  case str =>
    obtain ⟨rfl, rfl⟩ | ⟨rfl, v, hv, rfl⟩ := hi
    · exact exec_cdecStr s
    · exact exec_cdecStrSoft s v hv

end Sys2Proof.Machine
end

section
/-! ### What every step keeps of the registers and of the transmit state (10_state.md R58, R60, R72, R73, R81)

Only a write to a register and the TX commands touch these fields. Of every other operation there is one equation:
`guardedFields` is the same before and after. -/

namespace Sys2Proof.Machine

/-! #### The fields the invariants speak of -/

/-- What `registerFieldsOk` reads: `CTRL`, the reserved bits of `ERR`, and the three lengths. -/
def registerFields (s : State) : Word × Word × BitVec 9 × BitVec 9 × BitVec 9 :=
  (s.ctrl, s.err &&& 0xFF800000#32, s.cfg1Len, s.cfg2Len, s.freqLen)

/-- What `registerFieldsOk` and `transmitOk` read. -/
def guardedFields (s : State) : (Word × Word × BitVec 9 × BitVec 9 × BitVec 9) × TxUnit :=
  (registerFields s, s.tx)

/-- The two invariants of O55 together. -/
def fieldsOk (s : State) : Prop := registerFieldsOk s ∧ transmitOk s

theorem registerFields_of_guardedFields {s t : State} (h : guardedFields t = guardedFields s) :
    registerFields t = registerFields s := congrArg Prod.fst h

theorem registerFieldsOk_of_registerFields {s t : State} (h : registerFields t = registerFields s)
    (hs : registerFieldsOk s) : registerFieldsOk t := by
  simp only [registerFields, Prod.mk.injEq] at h
  obtain ⟨hctrl, herr, hcfg1, hcfg2, hfreq⟩ := h
  simpa only [registerFieldsOk, hctrl, herr, hcfg1, hcfg2, hfreq] using hs

theorem fieldsOk_of_guardedFields {s t : State} (h : guardedFields t = guardedFields s) (hs : fieldsOk s) :
    fieldsOk t := by
  have htx : t.tx = s.tx := congrArg Prod.snd h
  refine ⟨registerFieldsOk_of_registerFields (registerFields_of_guardedFields h) hs.1, ?_⟩
  simpa only [transmitOk, htx] using hs.2

/-- A state whose transmit unit is replaced by one that is not in `END` and has a LICH position. -/
theorem fieldsOk_withTx {s : State} {u : TxUnit} (hreg : registerFieldsOk s) (hstate : u.state ≠ .ending)
    (hpos : u.lichPos.toNat ≤ 5) : fieldsOk { s with tx := u } := ⟨hreg, hstate, hpos⟩

/-- Both branches of a choice keep the fields. -/
theorem guardedFields_ite {p : Prop} [Decidable p] {a b s : State} (ha : guardedFields a = guardedFields s)
    (hb : guardedFields b = guardedFields s) : guardedFields (if p then a else b) = guardedFields s := by
  split
  · exact ha
  · exact hb

/-- An operation done only under a condition keeps the fields if it does. -/
theorem guardedFields_ite_self {p : Prop} [Decidable p] {a s : State} (ha : guardedFields a = guardedFields s) :
    guardedFields (if p then a else s) = guardedFields s := guardedFields_ite ha rfl

/-! #### Errors, events and queues -/

/-- R73: no error code has a reserved bit. -/
theorem errBit_reserved (k : ErrCode) : errBit k &&& 0xFF800000#32 = 0#32 := by cases k <;> rfl

/-- So recording one leaves the reserved bits of `ERR` as they are. -/
theorem or_errBit_reserved (e : Word) (k : ErrCode) :
    (e ||| errBit k) &&& 0xFF800000#32 = e &&& 0xFF800000#32 := by
  rw [BitVec.and_comm, BitVec.and_or_distrib_left, BitVec.and_comm _ (errBit k), errBit_reserved,
    BitVec.or_zero, BitVec.and_comm]

/-- An operation that changes `ERR` outside its reserved bits only, and else no guarded field. -/
theorem guardedFields_withErr {s : State} {e : Word} (h : e &&& 0xFF800000#32 = s.err &&& 0xFF800000#32) :
    guardedFields { s with err := e } = guardedFields s := by
  simp only [guardedFields, registerFields, h]

theorem emit_guardedFields (ev : Event) (s : State) : guardedFields (emit ev s) = guardedFields s := by
  obtain ⟨-, h⟩ | ⟨-, h⟩ := emit_cases ev s
  · rw [h]; rfl
  · rw [h]; exact guardedFields_withErr (or_errBit_reserved _ _)

theorem raise_guardedFields (k : ErrCode) (s : State) : guardedFields (raise k s) = guardedFields s := by
  have hbit : guardedFields { s with err := s.err ||| errBit k } = guardedFields s :=
    guardedFields_withErr (or_errBit_reserved _ _)
  unfold raise
  exact guardedFields_ite hbit ((emit_guardedFields _ _).trans hbit)

theorem pushRxq_guardedFields (e : TaggedFrame) (s : State) : guardedFields (pushRxq e s) = guardedFields s :=
  guardedFields_ite rfl (raise_guardedFields _ _)

theorem pushTxq_guardedFields (e : TxEntry) (s : State) : guardedFields (pushTxq e s) = guardedFields s :=
  guardedFields_ite rfl (raise_guardedFields _ _)

theorem pushPlq_guardedFields (r : PayloadRecord) (s : State) : guardedFields (pushPlq r s) = guardedFields s :=
  guardedFields_ite rfl (raise_guardedFields _ _)

/-! #### Results -/

theorem putRes0_guardedFields (v : Word) (s : State) : guardedFields (putRes0 v s) = guardedFields s := rfl

theorem putRes_guardedFields (v w : Word) (s : State) : guardedFields (putRes v w s) = guardedFields s := rfl

theorem memWrite_guardedFields (sp : Byte) (off : Nat) (bytes : List Byte) (s : State) :
    guardedFields (memWrite sp off bytes s) = guardedFields s := by
  simp only [guardedFields, registerFields, memWrite_ctrl, memWrite_err, memWrite_cfg1Len, memWrite_cfg2Len,
    memWrite_freqLen, memWrite_tx]

theorem putScrOut_guardedFields {n : Nat} (v : BitVec n) (s : State) :
    guardedFields (putScrOut v s) = guardedFields s := memWrite_guardedFields _ _ _ _

theorem putDecoded_guardedFields {n : Nat} (r : BitVec n × Nat × Nat) (s : State) :
    guardedFields (putDecoded r s) = guardedFields s := putScrOut_guardedFields r.1 s

/-! #### The receive sequencer (45_rx_sequencer.md) -/

theorem feedReport_guardedFields (r : FeedResult) (s : State) :
    guardedFields (feedReport r s) = guardedFields s := by
  cases r with
  | stored n => rfl
  | golayFail => exact raise_guardedFields _ _
  | badPos => exact raise_guardedFields _ _

theorem runningFeed_guardedFields (f : RfFrame) (s : State) :
    guardedFields (runningFeed f s) = guardedFields s := by
  unfold runningFeed
  obtain ⟨buf, result⟩ := feedLich s.cfg.codec s.rx.running (rxLich s.cfg.codec f)
  cases result with
  | stored n => exact guardedFields_ite (emit_guardedFields _ _) rfl
  | golayFail => exact raise_guardedFields _ _
  | badPos => exact raise_guardedFields _ _

theorem pushAndFeed_guardedFields (r : PayloadRecord) (f : RfFrame) (s : State) :
    guardedFields (pushAndFeed r f s) = guardedFields s :=
  guardedFields_ite ((pushPlq_guardedFields _ _).trans (runningFeed_guardedFields _ _))
    ((runningFeed_guardedFields _ _).trans (pushPlq_guardedFields _ _))

theorem callEnd_guardedFields (r : EndReason) (s : State) : guardedFields (callEnd r s) = guardedFields s :=
  emit_guardedFields _ _

theorem callFrame_guardedFields (f : RfFrame) (feed : Bool) (s : State) :
    guardedFields (callFrame f feed s) = guardedFields s :=
  (guardedFields_ite_self (callEnd_guardedFields _ _)).trans
    (guardedFields_ite (pushAndFeed_guardedFields _ _ _) (pushPlq_guardedFields _ _))

theorem startCall_guardedFields (st : RxState) (via : Via) (l : Lsf) (s : State) :
    guardedFields (startCall st via l s) = guardedFields s := emit_guardedFields _ _

theorem rejectLsf_guardedFields (cause : RejectCause) (l : Lsf) (s : State) :
    guardedFields (rejectLsf cause l s) = guardedFields s :=
  guardedFields_ite (a := s) rfl ((emit_guardedFields _ _).trans (raise_guardedFields _ _))

theorem tryStart_guardedFields (late : Option RfFrame) (s : State) :
    guardedFields (tryStart late s) = guardedFields s := by
  unfold tryStart
  dsimp only
  split
  · exact rejectLsf_guardedFields _ _ _
  · cases late with
    | none => exact startCall_guardedFields _ _ _ _
    | some f => exact (callFrame_guardedFields _ _ _).trans (startCall_guardedFields _ _ _ _)

theorem headerPath_guardedFields (f : RfFrame) (s : State) : guardedFields (headerPath f s) = guardedFields s :=
  guardedFields_ite (tryStart_guardedFields _ _) (raise_guardedFields _ _)

theorem latePath_guardedFields (f : RfFrame) (s : State) : guardedFields (latePath f s) = guardedFields s :=
  guardedFields_ite ((tryStart_guardedFields _ _).trans (feedReport_guardedFields _ _))
    (feedReport_guardedFields _ _)

theorem eotPath_guardedFields (s : State) : guardedFields (eotPath s) = guardedFields s :=
  guardedFields_ite (callEnd_guardedFields _ _) rfl

theorem lostPath_guardedFields (s : State) : guardedFields (lostPath s) = guardedFields s :=
  guardedFields_ite (callEnd_guardedFields _ _) (b := enterListening s) rfl

theorem reportRssi_guardedFields (has : Bool) (rssi : BitVec 16) (s : State) :
    guardedFields (reportRssi has rssi s) = guardedFields s := guardedFields_ite_self (emit_guardedFields _ _)

theorem doTagHeader_guardedFields (f : RfFrame) (has : Bool) (rssi : BitVec 16) (s : State) :
    guardedFields (doTagHeader f has rssi s) = guardedFields s :=
  guardedFields_ite (raise_guardedFields _ _)
    ((guardedFields_ite rfl (headerPath_guardedFields _ _)).trans (reportRssi_guardedFields _ _ _))

theorem doTagData_guardedFields (f : RfFrame) (has : Bool) (rssi : BitVec 16) (s : State) :
    guardedFields (doTagData f has rssi s) = guardedFields s :=
  guardedFields_ite (raise_guardedFields _ _)
    ((guardedFields_ite (callFrame_guardedFields _ _ _) (latePath_guardedFields _ _)).trans
      (reportRssi_guardedFields _ _ _))

theorem doTagLost_guardedFields (has : Bool) (rssi : BitVec 16) (s : State) :
    guardedFields (doTagLost has rssi s) = guardedFields s :=
  (lostPath_guardedFields _).trans (reportRssi_guardedFields _ _ _)

theorem doTagEot_guardedFields (has : Bool) (rssi : BitVec 16) (s : State) :
    guardedFields (doTagEot has rssi s) = guardedFields s :=
  (eotPath_guardedFields _).trans (reportRssi_guardedFields _ _ _)

theorem rxProcess_guardedFields (e : TaggedFrame) (s : State) :
    guardedFields (rxProcess e s) = guardedFields s := by
  unfold rxProcess
  exact guardedFields_ite (doTagHeader_guardedFields _ _ _ _) <|
    guardedFields_ite (doTagData_guardedFields _ _ _ _) <|
    guardedFields_ite (reportRssi_guardedFields _ _ _) <|
    guardedFields_ite (doTagLost_guardedFields _ _ _) <|
    guardedFields_ite_self (doTagEot_guardedFields _ _ _)

theorem doRxInject_guardedFields (tag : BitVec 3) (has : Bool) (s : State) :
    guardedFields (doRxInject tag has s) = guardedFields s :=
  guardedFields_ite (raise_guardedFields _ _) ((putRes0_guardedFields _ _).trans (rxProcess_guardedFields _ _))

/-! #### The serial engine (47_serial_engine.md) -/

theorem openFail_guardedFields (k : ErrCode) (s : State) : guardedFields (openFail k s) = guardedFields s := by
  have hraised : guardedFields (closeLink (raise .openFail (raise k s))) = guardedFields s :=
    (raise_guardedFields _ _).trans (raise_guardedFields _ _)
  unfold openFail
  exact (emit_guardedFields _ _).trans (guardedFields_ite hraised hraised)

theorem portOpenAttempt_guardedFields (ok : Bool) (s : State) :
    guardedFields (portOpenAttempt ok s) = guardedFields s :=
  guardedFields_ite rfl (openFail_guardedFields _ _)

theorem openSucceeded_guardedFields (s : State) : guardedFields (openSucceeded s) = guardedFields s :=
  emit_guardedFields _ _

theorem endReply_guardedFields (s : State) : guardedFields (endReply s) = guardedFields s := rfl

theorem resend_guardedFields (s : State) : guardedFields (resend s) = guardedFields s :=
  guardedFields_ite rfl (guardedFields_ite rfl (guardedFields_ite_self rfl))

theorem respTimeout_guardedFields (s : State) : guardedFields (respTimeout s) = guardedFields s := by
  unfold respTimeout
  dsimp only
  refine guardedFields_ite (guardedFields_ite (resend_guardedFields s) (openFail_guardedFields _ _)) ?_
  calc guardedFields (endReply (emit _ (raise .noResp s)))
    _ = guardedFields (emit _ (raise .noResp s)) := endReply_guardedFields _
    _ = guardedFields (raise .noResp s) := emit_guardedFields _ _
    _ = guardedFields s := raise_guardedFields _ _

theorem watchdogExpire_guardedFields (s : State) : guardedFields (watchdogExpire s) = guardedFields s :=
  (emit_guardedFields _ _).trans (raise_guardedFields _ _)

theorem m17Frame_guardedFields (tag : BitVec 3) (p : List Byte) (s : State) :
    guardedFields (m17Frame tag p s) = guardedFields s :=
  guardedFields_ite rfl (guardedFields_ite (raise_guardedFields _ _) (pushRxq_guardedFields _ _))

theorem versionReply_guardedFields (v : Byte) (s : State) :
    guardedFields (versionReply v s) = guardedFields s :=
  guardedFields_ite rfl (guardedFields_ite rfl (raise_guardedFields _ _))

theorem ackReply_guardedFields (c : Byte) (s : State) : guardedFields (ackReply c s) = guardedFields s := by
  unfold ackReply
  refine guardedFields_ite_self ?_
  cases s.link.state with
  | config => rfl
  | freq => exact openSucceeded_guardedFields _
  | opened => exact emit_guardedFields _ _
  | closed | version | backoff => rfl

theorem nakReply_guardedFields (c r : Byte) (s : State) : guardedFields (nakReply c r s) = guardedFields s := by
  unfold nakReply
  refine guardedFields_ite_self (Eq.trans ?_ (emit_guardedFields (.ackNak 0x7F#8 c r)
    { s with link := { s.link with lastNak := r } }))
  dsimp only
  split
  · exact openFail_guardedFields _ _
  · exact openFail_guardedFields _ _
  · exact raise_guardedFields _ _
  all_goals rfl

theorem doSerGetStatus_guardedFields (p : List Byte) (s : State) :
    guardedFields (doSerGetStatus p s) = guardedFields s :=
  guardedFields_ite rfl (guardedFields_ite (raise_guardedFields _ _) rfl)

theorem doSerGetVersion_guardedFields (p : List Byte) (s : State) :
    guardedFields (doSerGetVersion p s) = guardedFields s := by
  cases p with
  | nil => exact raise_guardedFields _ _
  | cons v rest => exact versionReply_guardedFields _ _

theorem doSerAck_guardedFields (p : List Byte) (s : State) : guardedFields (doSerAck p s) = guardedFields s := by
  cases p with
  | nil => exact raise_guardedFields _ _
  | cons c rest => exact ackReply_guardedFields _ _

theorem doSerNak_guardedFields (p : List Byte) (s : State) : guardedFields (doSerNak p s) = guardedFields s := by
  unfold doSerNak
  split
  · exact nakReply_guardedFields _ _ _
  · exact raise_guardedFields _ _

theorem doSerM17Lost_guardedFields (p : List Byte) (s : State) :
    guardedFields (doSerM17Lost p s) = guardedFields s := guardedFields_ite_self (pushRxq_guardedFields _ _)

theorem doLinkOpen_guardedFields (s : State) : guardedFields (doLinkOpen s) = guardedFields s := by
  unfold doLinkOpen
  cases s.link.state with
  | closed | backoff => rfl
  | version | config | freq | opened => exact raise_guardedFields _ _

theorem doLinkClose_guardedFields (s : State) : guardedFields (doLinkClose s) = guardedFields s :=
  emit_guardedFields _ _

theorem doLinkSetMode_guardedFields (mode : Byte) (s : State) :
    guardedFields (doLinkSetMode mode s) = guardedFields s :=
  guardedFields_ite (raise_guardedFields _ _) rfl

/-! #### The instructions of the serial frame types (R521) -/

/-- The instructions of the `SER` format (30_encoding.md R213). -/
def isSerial : Instr → Bool
  | .serGetVersion _ | .serGetStatus _ | .serSetConfig _ | .serSetMode _ | .serSetFreq _ | .serM17LinkSetup _
  | .serM17Stream _ | .serM17Packet _ | .serM17Lost _ | .serAck _ | .serNak _ | .serDebug1 _ | .serDebug2 _
  | .serDebug3 _ | .serDebug4 _ | .serDebug5 _ => true
  | _ => false

theorem exec_serial_guardedFields {i : Instr} (hi : isSerial i = true) {s t : State}
    (h : exec i s = .next t) : guardedFields t = guardedFields s := by
  cases i
  case serGetVersion p => cases h; exact doSerGetVersion_guardedFields _ _
  case serGetStatus p => cases h; exact doSerGetStatus_guardedFields _ _
  case serSetConfig p | serSetMode p | serSetFreq p => cases h; exact raise_guardedFields _ _
  case serM17LinkSetup p | serM17Stream p | serM17Packet p => cases h; exact m17Frame_guardedFields _ _ _
  case serM17Lost p => cases h; exact doSerM17Lost_guardedFields _ _
  case serAck p => cases h; exact doSerAck_guardedFields _ _
  case serNak p => cases h; exact doSerNak_guardedFields _ _
  case serDebug1 p | serDebug2 p | serDebug3 p | serDebug4 p | serDebug5 p =>
    cases h; exact emit_guardedFields _ _
  all_goals cases hi

/-- What an inbound frame can do: its type is unknown, or a serial instruction runs. -/
theorem handleFrame_cases (type : Byte) (p : List Byte) (s : State) :
    handleFrame type p s = raise .serUnknown s ∨
      ∃ i, isSerial i = true ∧ exec i s = .next (handleFrame type p s) := by
  cases hd : decodeSerBody s.cfg.serial type p with
  | error e => exact .inl (by rw [handleFrame, hd])
  | ok i =>
    cases hi : isSerial i with
    | true => exact .inr ⟨i, hi, by rw [handleFrame, hd]; cases i <;> cases hi <;> rfl⟩
    | false => exact .inl (by rw [handleFrame, hd]; cases i <;> cases hi <;> rfl)

theorem handleFrame_guardedFields (type : Byte) (p : List Byte) (s : State) :
    guardedFields (handleFrame type p s) = guardedFields s := by
  obtain h | ⟨i, hi, h⟩ := handleFrame_cases type p s
  · rw [h]; exact raise_guardedFields _ _
  · exact exec_serial_guardedFields hi h

/-! #### A tick (47_serial_engine.md R500) -/

theorem completeFrame_guardedFields (s : State) : guardedFields (completeFrame s) = guardedFields s :=
  guardedFields_ite (raise_guardedFields _ _) (handleFrame_guardedFields _ _ _)

theorem completeOr_guardedFields (p : ParserPos) (s : State) :
    guardedFields (completeOr p s) = guardedFields s := guardedFields_ite (completeFrame_guardedFields _) rfl

theorem parseByte_guardedFields (b : Byte) (s : State) : guardedFields (parseByte b s) = guardedFields s := by
  unfold parseByte
  cases s.parser.pos with
  | start => exact guardedFields_ite_self rfl
  | length1 => exact guardedFields_ite rfl (guardedFields_ite (raise_guardedFields _ _) rfl)
  | length2 => rfl
  | type => exact completeOr_guardedFields _ _
  | data => exact completeOr_guardedFields _ _

theorem foldl_parseByte_guardedFields (bytes : List Byte) (s : State) :
    guardedFields (bytes.foldl (fun s b => parseByte b s) s) = guardedFields s := by
  induction bytes generalizing s with
  | nil => rfl
  | cons b rest ih => exact (ih _).trans (parseByte_guardedFields b s)

theorem parseBytes_guardedFields (bytes : List Byte) (s : State) :
    guardedFields (parseBytes bytes s) = guardedFields s :=
  guardedFields_ite_self (foldl_parseByte_guardedFields bytes s)

theorem rxLoop_guardedFields (q : List TaggedFrame) (s : State) :
    guardedFields (rxLoop q s) = guardedFields s := by
  induction q generalizing s with
  | nil => rfl
  | cons e rest ih => exact (ih _).trans (rxProcess_guardedFields e _)

theorem txDrain_guardedFields (s : State) : guardedFields (txDrain s) = guardedFields s := by
  unfold txDrain
  refine guardedFields_ite_self ?_
  cases s.txq with
  | nil => rfl
  | cons e rest => rfl

theorem backoffAction_guardedFields (s : State) : guardedFields (backoffAction s) = guardedFields s :=
  guardedFields_ite_self rfl

theorem portAction_guardedFields (ok : Bool) (s : State) :
    guardedFields (portAction ok s) = guardedFields s := guardedFields_ite_self (portOpenAttempt_guardedFields _ _)

theorem respAction_guardedFields (s : State) : guardedFields (respAction s) = guardedFields s :=
  guardedFields_ite_self (respTimeout_guardedFields _)

theorem watchdogAction_guardedFields (s : State) : guardedFields (watchdogAction s) = guardedFields s :=
  guardedFields_ite_self (watchdogExpire_guardedFields _)

theorem pollAction_guardedFields (s : State) : guardedFields (pollAction s) = guardedFields s :=
  guardedFields_ite_self rfl

theorem timerActions_guardedFields (ok : Bool) (s : State) :
    guardedFields (timerActions ok s) = guardedFields s :=
  calc guardedFields (timerActions ok s)
    _ = guardedFields (watchdogAction (respAction (portAction ok (backoffAction s)))) :=
      pollAction_guardedFields _
    _ = guardedFields (respAction (portAction ok (backoffAction s))) := watchdogAction_guardedFields _
    _ = guardedFields (portAction ok (backoffAction s)) := respAction_guardedFields _
    _ = guardedFields (backoffAction s) := portAction_guardedFields _ _
    _ = guardedFields s := backoffAction_guardedFields _

/-- A tick reads the guarded registers and the transmit state at most. -/
theorem tick_guardedFields (dt : Nat) (bytes : List Byte) (ok : Bool) (s : State) :
    guardedFields (tick dt bytes ok s) = guardedFields s :=
  calc guardedFields (tick dt bytes ok s)
    _ = guardedFields (txDrain (rxDrain (parseBytes bytes (advanceTimers dt s)))) :=
      timerActions_guardedFields _ _
    _ = guardedFields (rxDrain (parseBytes bytes (advanceTimers dt s))) := txDrain_guardedFields _
    _ = guardedFields (parseBytes bytes (advanceTimers dt s)) := rxLoop_guardedFields _ _
    _ = guardedFields (advanceTimers dt s) := parseBytes_guardedFields _ _
    _ = guardedFields s := rfl

/-! #### The transmit builder (46_tx_builder.md) -/

/-- R467: the position after any is a position. -/
theorem nextLichPos_le (n : BitVec 3) : (nextLichPos n).toNat ≤ 5 := by
  simp only [nextLichPos, BitVec.toNat_ofNat]
  omega

theorem doTxStart_fieldsOk {s : State} (hs : fieldsOk s) : fieldsOk (doTxStart s) := by
  unfold doTxStart
  split
  · exact fieldsOk_of_guardedFields (raise_guardedFields _ _) hs
  · exact fieldsOk_withTx hs.1 nofun (Nat.zero_le 5)

theorem headerFirst_fieldsOk {s : State} (hs : fieldsOk s) : fieldsOk (headerFirst s) := by
  unfold headerFirst
  split
  · obtain ⟨hreg, -, hpos⟩ := fieldsOk_of_guardedFields (pushTxq_guardedFields _ s) hs
    exact fieldsOk_withTx hreg nofun hpos
  · exact hs

theorem latchLich_fieldsOk {s : State} (hs : fieldsOk s) : fieldsOk (latchLich s) := by
  obtain ⟨hreg, hstate, hpos⟩ := hs
  unfold latchLich
  split
  · split
    · exact fieldsOk_withTx hreg hstate hpos
    · exact fieldsOk_withTx hreg hstate hpos
  · exact ⟨hreg, hstate, hpos⟩

theorem doTxPayload_fieldsOk (eos : Bool) {s : State} (hs : fieldsOk s) : fieldsOk (doTxPayload eos s) := by
  unfold doTxPayload
  split
  · exact fieldsOk_of_guardedFields (raise_guardedFields _ _) hs
  · obtain ⟨hreg, hstate, -⟩ :=
      fieldsOk_of_guardedFields ((putRes0_guardedFields _ _).trans (pushTxq_guardedFields _ _))
        (latchLich_fieldsOk (headerFirst_fieldsOk hs))
    exact fieldsOk_withTx hreg hstate (nextLichPos_le _)

/-- R58, R473: `END` stands only while the EOT frame is queued. -/
theorem doTxEnd_fieldsOk {s : State} (hs : fieldsOk s) : fieldsOk (doTxEnd s) := by
  obtain ⟨hreg, hstate, hpos⟩ := hs
  have hqueued (e : TxEntry) : registerFieldsOk (pushTxq e { s with tx := { s.tx with state := .ending } }) :=
    registerFieldsOk_of_registerFields (registerFields_of_guardedFields (pushTxq_guardedFields e _)) hreg
  unfold doTxEnd
  split
  · exact fieldsOk_of_guardedFields (raise_guardedFields _ _) ⟨hreg, hstate, hpos⟩
  · exact fieldsOk_withTx hreg nofun hpos
  all_goals exact fieldsOk_withTx (hqueued _) nofun (by rw [pushTxq_tx]; exact hpos)

theorem doTxNextLsf_fieldsOk {s : State} (hs : fieldsOk s) : fieldsOk (doTxNextLsf s) :=
  fieldsOk_withTx hs.1 hs.2.1 hs.2.2

/-! #### The host port (48_host_port.md) -/

theorem doLdec_guardedFields (s : State) : guardedFields (doLdec s) = guardedFields s :=
  putScrOut_guardedFields (lichDecode s.cfg.codec (scrInSeq 96 s)).1 s

theorem doCrc16_guardedFields (n : BitVec 10) (s : State) : guardedFields (doCrc16 n s) = guardedFields s :=
  guardedFields_ite (raise_guardedFields _ _) rfl

theorem doEvPop_guardedFields (s : State) : guardedFields (doEvPop s) = guardedFields s := by
  unfold doEvPop
  cases s.evq with
  | nil => rfl
  | cons ev rest => exact (putRes_guardedFields _ _ _).trans (memWrite_guardedFields _ _ _ _)

theorem doPlPop_guardedFields (s : State) : guardedFields (doPlPop s) = guardedFields s := by
  unfold doPlPop
  cases s.plq with
  | nil => rfl
  | cons r rest => exact (putRes_guardedFields _ _ _).trans (memWrite_guardedFields _ _ _ _)

/-- The instructions of the `CMD` format (30_encoding.md R184). -/
def isCommand : Instr → Bool
  | .nop | .genc _ | .gdec _ | .cencLsf | .cdecLsf | .cdecLsfSoft | .cencStr | .cdecStr | .cdecStrSoft | .ilv
  | .dilv | .scr | .crc16 _ | .lenc | .ldec | .rxInject _ _ | .rxReset | .txStart | .txPayload _ | .txEnd
  | .txNextLsf | .linkOpen | .linkClose | .linkSetMode _ | .evPop | .plPop => true
  | _ => false

theorem exec_command_fieldsOk {i : Instr} (hi : isCommand i = true) {s t : State} (h : exec i s = .next t)
    (hs : fieldsOk s) : fieldsOk t := by
  cases i
  case txStart => cases h; exact doTxStart_fieldsOk hs
  case txPayload eos => cases h; exact doTxPayload_fieldsOk eos hs
  case txEnd => cases h; exact doTxEnd_fieldsOk hs
  case txNextLsf => cases h; exact doTxNextLsf_fieldsOk hs
  case crc16 n => cases h; exact fieldsOk_of_guardedFields (doCrc16_guardedFields _ _) hs
  case rxInject tag has => cases h; exact fieldsOk_of_guardedFields (doRxInject_guardedFields _ _ _) hs
  case linkOpen => cases h; exact fieldsOk_of_guardedFields (doLinkOpen_guardedFields _) hs
  case linkClose => cases h; exact fieldsOk_of_guardedFields (doLinkClose_guardedFields _) hs
  case linkSetMode mode => cases h; exact fieldsOk_of_guardedFields (doLinkSetMode_guardedFields _ _) hs
  case evPop => cases h; exact fieldsOk_of_guardedFields (doEvPop_guardedFields _) hs
  case plPop => cases h; exact fieldsOk_of_guardedFields (doPlPop_guardedFields _) hs
  case nop => cases h; exact hs
  case rxReset => cases h; exact hs
  case genc d | gdec w => cases h; exact hs
  case cencLsf | cencStr | ilv | dilv | scr | lenc =>
    cases h; exact fieldsOk_of_guardedFields (putScrOut_guardedFields _ _) hs
  case cdecLsf | cdecLsfSoft | cdecStr | cdecStrSoft =>
    cases h; exact fieldsOk_of_guardedFields (putDecoded_guardedFields _ _) hs
  case ldec => cases h; exact fieldsOk_of_guardedFields (doLdec_guardedFields _) hs
  all_goals cases hi

/-- What a command word can do: its code is reserved (R185), or a command runs (R587). -/
theorem execute_cases (word : Word) (s : State) :
    execute word s = raise .badOp s ∨ ∃ i, isCommand i = true ∧ exec i s = .next (execute word s) := by
  cases hd : decodeCmd word with
  | error e => exact .inl (by rw [execute, hd])
  | ok i =>
    cases hi : isCommand i with
    | true => exact .inr ⟨i, hi, by rw [execute, hd]; cases i <;> cases hi <;> rfl⟩
    | false => exact .inl (by rw [execute, hd]; cases i <;> cases hi <;> rfl)

theorem execute_fieldsOk (word : Word) {s : State} (hs : fieldsOk s) : fieldsOk (execute word s) := by
  obtain h | ⟨i, hi, h⟩ := execute_cases word s
  · rw [h]; exact fieldsOk_of_guardedFields (raise_guardedFields _ _) hs
  · exact exec_command_fieldsOk hi h hs

/-- R582: a write to `CTRL` keeps its defined bits only. -/
theorem and_ctrlMask_reserved (data : Word) : data &&& ctrlMask &&& ~~~ctrlMask = 0#32 := by
  rw [BitVec.and_assoc, BitVec.and_not_self]
  exact BitVec.and_zero

/-- R73: clearing bits sets none. -/
theorem clearErr_reserved {e : Word} (d : Word) (h : e &&& 0xFF800000#32 = 0#32) :
    e &&& ~~~d &&& 0xFF800000#32 = 0#32 := by
  rw [BitVec.and_assoc, BitVec.and_comm (~~~d), ← BitVec.and_assoc, h, BitVec.zero_and]

/-- R81. -/
theorem clampLen_le (data : Word) : (clampLen data).toNat ≤ 256 := by
  simp only [clampLen, BitVec.toNat_ofNat]
  omega

theorem writeReg_fieldsOk (sel : Byte) (data : Word) {s : State} (hs : fieldsOk s) :
    fieldsOk (writeReg sel data s) := by
  obtain ⟨⟨hctrl, herr, hcfg1, hcfg2, hfreq⟩, htx⟩ := hs
  unfold writeReg
  split
  · exact ⟨⟨and_ctrlMask_reserved data, herr, hcfg1, hcfg2, hfreq⟩, htx⟩
  · exact ⟨⟨hctrl, clearErr_reserved _ herr, hcfg1, hcfg2, hfreq⟩, htx⟩
  · exact ⟨⟨hctrl, herr, clampLen_le data, hcfg2, hfreq⟩, htx⟩
  · exact ⟨⟨hctrl, herr, hcfg1, clampLen_le data, hfreq⟩, htx⟩
  · exact ⟨⟨hctrl, herr, hcfg1, hcfg2, clampLen_le data⟩, htx⟩
  · exact execute_fieldsOk data ⟨⟨hctrl, herr, hcfg1, hcfg2, hfreq⟩, htx⟩
  · exact fieldsOk_of_guardedFields (raise_guardedFields _ _) ⟨⟨hctrl, herr, hcfg1, hcfg2, hfreq⟩, htx⟩

theorem doRd_guardedFields (sel : Byte) (s : State) : guardedFields (doRd sel s) = guardedFields s := by
  unfold doRd
  cases readReg sel s with
  | some v => rfl
  | none => exact raise_guardedFields _ _

theorem doBrd_guardedFields (sp : Byte) (off : BitVec 16) (s : State) :
    guardedFields (doBrd sp off s) = guardedFields s := by
  unfold doBrd
  obtain ⟨_, _, -, -, h⟩ | h := hostBufRead_cases sp off.toNat s
  · rw [h]; rfl
  · rw [h]; exact raise_guardedFields _ _

theorem doBwr_guardedFields (sp : Byte) (off : BitVec 16) (data : Byte) (s : State) :
    guardedFields (doBwr sp off data s) = guardedFields s := by
  unfold doBwr
  obtain ⟨_, -, -, h⟩ | h := hostBufWrite_cases sp off.toNat data s
  · rw [h]; rfl
  · rw [h]; exact raise_guardedFields _ _

/-- A host transaction keeps the fields legal (R580). -/
theorem exec_decodePort_fieldsOk (w : BitVec 64) {s t : State} (h : exec (decodePort w) s = .next t)
    (hs : fieldsOk s) : fieldsOk t := by
  unfold decodePort at h
  dsimp only at h
  split at h
  · cases h; exact fieldsOk_of_guardedFields (doRd_guardedFields _ _) hs
  · split at h
    · cases h; exact writeReg_fieldsOk _ _ hs
    · split at h
      · cases h; exact fieldsOk_of_guardedFields (doBrd_guardedFields _ _ _) hs
      · cases h; exact fieldsOk_of_guardedFields (doBwr_guardedFields _ _ _ _) hs

theorem resetStep_fieldsOk (s : State) : fieldsOk (resetStep s) :=
  ⟨⟨BitVec.zero_and, BitVec.zero_and, Nat.zero_le _, Nat.zero_le _, Nat.zero_le _⟩, nofun, Nat.zero_le _⟩

/-! #### Every step -/

theorem step_fieldsOk {s t : State} (h : step s = .next t) (hs : fieldsOk s) : fieldsOk t := by
  obtain ⟨-, rfl⟩ | ⟨e, rest, -, hstep⟩ := step_cases s t h
  · exact hs
  · have hfetched : fieldsOk { s with inputs := rest, serialOut := [] } := hs
    obtain ⟨w, -, hexec⟩ | ⟨dt, bytes, ok, -, rfl⟩ | ⟨-, rfl⟩ := hstep
    · exact exec_decodePort_fieldsOk w hexec hfetched
    · exact fieldsOk_of_guardedFields (tick_guardedFields dt bytes ok _) hfetched
    · exact resetStep_fieldsOk _

/-- Settles O55: register writes and the TX commands keep the fields legal, and every other operation keeps the
fields as they are. -/
theorem stepKeepsFieldsLegal : Obligations.StepKeepsFieldsLegal := by
  unfold Obligations.StepKeepsFieldsLegal
  intro s t hreg htx h
  exact step_fieldsOk h ⟨hreg, htx⟩

end Sys2Proof.Machine
end

section
/-! ### What every step keeps of the memory and of the queues (20_memory.md R144, R145, R150, R151,
47_serial_engine.md R502)

Every operation but a reset is made of byte stores, pushes that a full queue refuses, and removals from a queue.
Each of these keeps the memory canonical and a queue within its capacity. Only inbound frames and phase 3 of a tick
touch `rxq`: their lemmas are of `boundsKept`, those of all other operations of `storageKept`. -/

namespace Sys2Proof.Machine

/-! #### What an operation keeps -/

/-- From `s` to `t` the memory stays canonical, and each queue but `rxq` stays within its capacity. An abbreviation,
so that an update of any other field is seen to keep it by `boundsKept.refl`. -/
abbrev boundsKept (s t : State) : Prop :=
  (Memory.wf s.mem → Memory.wf t.mem) ∧
  (s.txq.length ≤ s.cfg.txqCap → t.txq.length ≤ t.cfg.txqCap) ∧
  (s.evq.length ≤ s.cfg.evqCap → t.evq.length ≤ t.cfg.evqCap) ∧
  (s.plq.length ≤ s.cfg.plqCap → t.plq.length ≤ t.cfg.plqCap)

/-- And `rxq` is left alone. -/
abbrev storageKept (s t : State) : Prop := boundsKept s t ∧ t.rxq = s.rxq

/-- Doing nothing; and doing `{ s with rx := u }`, whose memory and queues are those of `s`. -/
theorem boundsKept.refl (s : State) : boundsKept s s := ⟨id, id, id, id⟩

/-- One operation after another, in the order in which they are applied: the last one first. -/
theorem boundsKept.after {s t u : State} (htu : boundsKept t u) (hst : boundsKept s t) : boundsKept s u := by
  obtain ⟨hmem, htxq, hevq, hplq⟩ := hst
  obtain ⟨hmem', htxq', hevq', hplq'⟩ := htu
  exact ⟨hmem' ∘ hmem, htxq' ∘ htxq, hevq' ∘ hevq, hplq' ∘ hplq⟩

theorem storageKept.bounds {s t : State} (h : storageKept s t) : boundsKept s t := h.1

theorem storageKept.rxq {s t : State} (h : storageKept s t) : t.rxq = s.rxq := h.2

/-- As `boundsKept.refl`. -/
theorem storageKept.refl (s : State) : storageKept s s := ⟨boundsKept.refl s, rfl⟩

/-- As `boundsKept.after`. -/
theorem storageKept.after {s t u : State} (htu : storageKept t u) (hst : storageKept s t) : storageKept s u :=
  ⟨htu.bounds.after hst.bounds, htu.rxq.trans hst.rxq⟩

/-- Both branches of a choice keep the bounds. -/
theorem boundsKept_ite {p : Prop} [Decidable p] {s a b : State} (ha : boundsKept s a) (hb : boundsKept s b) :
    boundsKept s (if p then a else b) := by
  split
  · exact ha
  · exact hb

/-- Both branches of a choice keep the storage. -/
theorem storageKept_ite {p : Prop} [Decidable p] {s a b : State} (ha : storageKept s a) (hb : storageKept s b) :
    storageKept s (if p then a else b) := by
  split
  · exact ha
  · exact hb

/-- An operation done only under a condition keeps the storage if it does. -/
theorem storageKept_ite_self {p : Prop} [Decidable p] {s a : State} (ha : storageKept s a) :
    storageKept s (if p then a else s) := storageKept_ite ha (.refl s)

/-! #### One field replaced -/

theorem storageKept_withTx {s t : State} {u : TxUnit} (h : storageKept s t) : storageKept s { t with tx := u } := h

theorem storageKept_withMem {s : State} {m : List Host.Cell} (h : Memory.wf s.mem → Memory.wf m) :
    storageKept s { s with mem := m } := ⟨⟨h, id, id, id⟩, rfl⟩

theorem storageKept_withTxq {s : State} {q : List TxEntry}
    (h : s.txq.length ≤ s.cfg.txqCap → q.length ≤ s.cfg.txqCap) : storageKept s { s with txq := q } :=
  ⟨⟨id, h, id, id⟩, rfl⟩

theorem storageKept_withEvq {s : State} {q : List Event}
    (h : s.evq.length ≤ s.cfg.evqCap → q.length ≤ s.cfg.evqCap) : storageKept s { s with evq := q } :=
  ⟨⟨id, id, h, id⟩, rfl⟩

theorem storageKept_withPlq {s : State} {q : List PayloadRecord}
    (h : s.plq.length ≤ s.cfg.plqCap → q.length ≤ s.cfg.plqCap) : storageKept s { s with plq := q } :=
  ⟨⟨id, id, id, h⟩, rfl⟩

/-- R150: a queue with room takes one entry more. -/
theorem length_push_le {α : Type} {q : List α} {cap : Nat} (e : α) (h : q.length < cap) :
    (q ++ [e]).length ≤ cap := by
  rw [List.length_append]
  exact h

/-- A queue that loses its head stays within its capacity. -/
theorem length_pop_le {α : Type} {q rest : List α} {e : α} {cap : Nat} (hq : q = e :: rest)
    (h : q.length ≤ cap) : rest.length ≤ cap := by
  subst hq
  exact Nat.le_of_succ_le h

/-! #### Errors, events, queues and stores -/

theorem emit_storageKept (ev : Event) (s : State) : storageKept s (emit ev s) := by
  obtain ⟨hroom, h⟩ | ⟨-, h⟩ := emit_cases ev s
  · rw [h]; exact storageKept_withEvq fun _ => length_push_le ev hroom
  · rw [h]; exact .refl s

theorem raise_storageKept (k : ErrCode) (s : State) : storageKept s (raise k s) := by
  obtain ⟨-, h⟩ | ⟨-, hroom, h⟩ | ⟨-, -, h⟩ := raise_cases k s
  · rw [h]; exact .refl s
  · rw [h]; exact storageKept_withEvq fun _ => length_push_le _ hroom
  · rw [h]; exact .refl s

theorem pushTxq_storageKept (e : TxEntry) (s : State) : storageKept s (pushTxq e s) := by
  obtain ⟨hroom, h⟩ | ⟨-, h⟩ := pushTxq_cases e s
  · rw [h]; exact storageKept_withTxq fun _ => length_push_le e hroom
  · rw [h]; exact raise_storageKept _ _

theorem pushPlq_storageKept (r : PayloadRecord) (s : State) : storageKept s (pushPlq r s) := by
  obtain ⟨hroom, h⟩ | ⟨-, h⟩ := pushPlq_cases r s
  · rw [h]; exact storageKept_withPlq fun _ => length_push_le r hroom
  · rw [h]; exact raise_storageKept _ _

/-- The one push that changes `rxq`. -/
theorem pushRxq_boundsKept (e : TaggedFrame) (s : State) : boundsKept s (pushRxq e s) := by
  obtain ⟨-, h⟩ | ⟨-, h⟩ := pushRxq_cases e s
  · rw [h]; exact .refl s
  · rw [h]; exact (raise_storageKept _ _).bounds

theorem memWrite_storageKept (sp : Byte) (off : Nat) (bytes : List Byte) (s : State) :
    storageKept s (memWrite sp off bytes s) := storageKept_withMem (memWrite_wf sp off bytes s)

theorem putScrOut_storageKept {n : Nat} (v : BitVec n) (s : State) : storageKept s (putScrOut v s) :=
  memWrite_storageKept _ _ _ _

theorem putRes0_storageKept (v : Word) (s : State) : storageKept s (putRes0 v s) := .refl s

theorem putRes_storageKept (v w : Word) (s : State) : storageKept s (putRes v w s) := .refl s

theorem putDecoded_storageKept {n : Nat} (r : BitVec n × Nat × Nat) (s : State) :
    storageKept s (putDecoded r s) := putScrOut_storageKept r.1 s

/-! #### The receive sequencer (45_rx_sequencer.md) -/

theorem feedReport_storageKept (r : FeedResult) (s : State) : storageKept s (feedReport r s) := by
  cases r with
  | stored n => exact .refl s
  | golayFail => exact raise_storageKept _ _
  | badPos => exact raise_storageKept _ _

theorem runningFeed_storageKept (f : RfFrame) (s : State) : storageKept s (runningFeed f s) := by
  unfold runningFeed
  obtain ⟨buf, result⟩ := feedLich s.cfg.codec s.rx.running (rxLich s.cfg.codec f)
  cases result with
  | stored n => exact storageKept_ite ((emit_storageKept _ _).after (.refl s)) (.refl s)
  | golayFail => exact (raise_storageKept _ _).after (.refl s)
  | badPos => exact (raise_storageKept _ _).after (.refl s)

theorem pushAndFeed_storageKept (r : PayloadRecord) (f : RfFrame) (s : State) :
    storageKept s (pushAndFeed r f s) := by
  obtain ⟨-, -, h⟩ | ⟨-, h⟩ := pushAndFeed_cases r f s
  · rw [h]; exact (pushPlq_storageKept _ _).after (runningFeed_storageKept f s)
  · rw [h]; exact (runningFeed_storageKept _ _).after (pushPlq_storageKept r s)

theorem callEnd_storageKept (r : EndReason) (s : State) : storageKept s (callEnd r s) := emit_storageKept _ s

theorem callFrame_storageKept (f : RfFrame) (feed : Bool) (s : State) : storageKept s (callFrame f feed s) := by
  unfold callFrame
  exact (storageKept_ite_self (callEnd_storageKept _ _)).after <|
    storageKept_ite ((pushAndFeed_storageKept _ _ _).after (.refl s)) ((pushPlq_storageKept _ _).after (.refl s))

theorem startCall_storageKept (st : RxState) (via : Via) (l : Lsf) (s : State) :
    storageKept s (startCall st via l s) := (emit_storageKept _ _).after (.refl s)

theorem rejectLsf_storageKept (cause : RejectCause) (l : Lsf) (s : State) :
    storageKept s (rejectLsf cause l s) := by
  unfold rejectLsf
  exact storageKept_ite (.refl s) ((emit_storageKept _ _).after (raise_storageKept _ s))

theorem tryStart_storageKept (late : Option RfFrame) (s : State) : storageKept s (tryStart late s) := by
  unfold tryStart
  dsimp only
  split
  · exact rejectLsf_storageKept _ _ _
  · cases late with
    | none => exact startCall_storageKept _ _ _ _
    | some f => exact (callFrame_storageKept _ _ _).after (startCall_storageKept _ _ _ _)

theorem headerPath_storageKept (f : RfFrame) (s : State) : storageKept s (headerPath f s) := by
  unfold headerPath
  exact storageKept_ite ((tryStart_storageKept _ _).after (.refl s)) (raise_storageKept _ s)

theorem latePath_storageKept (f : RfFrame) (s : State) : storageKept s (latePath f s) := by
  unfold latePath
  obtain ⟨buf, result⟩ := feedLich s.cfg.codec s.rx.primary (rxLich s.cfg.codec f)
  dsimp only
  have hfed : storageKept s (feedReport result { s with rx := { s.rx with primary := buf } }) :=
    (feedReport_storageKept _ _).after (.refl s)
  split
  · exact (tryStart_storageKept _ _).after hfed
  · exact hfed

theorem eotPath_storageKept (s : State) : storageKept s (eotPath s) :=
  storageKept_ite (callEnd_storageKept _ _) (.refl s)

theorem lostPath_storageKept (s : State) : storageKept s (lostPath s) :=
  storageKept_ite (callEnd_storageKept _ _) (b := enterListening s) (.refl s)

theorem reportRssi_storageKept (has : Bool) (rssi : BitVec 16) (s : State) :
    storageKept s (reportRssi has rssi s) := storageKept_ite_self (emit_storageKept _ _)

theorem doTagHeader_storageKept (f : RfFrame) (has : Bool) (rssi : BitVec 16) (s : State) :
    storageKept s (doTagHeader f has rssi s) := by
  unfold doTagHeader
  exact storageKept_ite (raise_storageKept _ _)
    ((storageKept_ite (.refl _) (headerPath_storageKept _ _)).after (reportRssi_storageKept _ _ _))

theorem doTagData_storageKept (f : RfFrame) (has : Bool) (rssi : BitVec 16) (s : State) :
    storageKept s (doTagData f has rssi s) := by
  unfold doTagData
  exact storageKept_ite (raise_storageKept _ _)
    ((storageKept_ite (callFrame_storageKept _ _ _) (latePath_storageKept _ _)).after
      (reportRssi_storageKept _ _ _))

theorem doTagLost_storageKept (has : Bool) (rssi : BitVec 16) (s : State) :
    storageKept s (doTagLost has rssi s) := (lostPath_storageKept _).after (reportRssi_storageKept _ _ _)

theorem doTagEot_storageKept (has : Bool) (rssi : BitVec 16) (s : State) :
    storageKept s (doTagEot has rssi s) := (eotPath_storageKept _).after (reportRssi_storageKept _ _ _)

theorem rxProcess_storageKept (e : TaggedFrame) (s : State) : storageKept s (rxProcess e s) := by
  unfold rxProcess
  exact storageKept_ite (doTagHeader_storageKept _ _ _ _) <|
    storageKept_ite (doTagData_storageKept _ _ _ _) <|
    storageKept_ite (reportRssi_storageKept _ _ _) <|
    storageKept_ite (doTagLost_storageKept _ _ _) <|
    storageKept_ite_self (doTagEot_storageKept _ _ _)

theorem doRxInject_storageKept (tag : BitVec 3) (has : Bool) (s : State) :
    storageKept s (doRxInject tag has s) := by
  unfold doRxInject
  exact storageKept_ite (raise_storageKept _ _) ((putRes0_storageKept _ _).after (rxProcess_storageKept _ _))

/-! #### The link (47_serial_engine.md) -/

/-- R533: closing empties `txq`. -/
theorem closeLink_storageKept (s : State) : storageKept s (closeLink s) :=
  storageKept_withTxq fun _ => Nat.zero_le _

theorem enterBackoff_storageKept (s : State) : storageKept s (enterBackoff s) := .refl s

theorem openFail_storageKept (k : ErrCode) (s : State) : storageKept s (openFail k s) := by
  have hclosed : storageKept s (closeLink (raise .openFail (raise k s))) :=
    (closeLink_storageKept _).after ((raise_storageKept _ _).after (raise_storageKept k s))
  unfold openFail
  exact (emit_storageKept _ _).after (storageKept_ite hclosed hclosed)

theorem portOpenAttempt_storageKept (ok : Bool) (s : State) : storageKept s (portOpenAttempt ok s) :=
  storageKept_ite (.refl s) (openFail_storageKept _ _)

theorem openSucceeded_storageKept (s : State) : storageKept s (openSucceeded s) :=
  (emit_storageKept _ _).after (.refl s)

theorem endReply_storageKept (s : State) : storageKept s (endReply s) := .refl s

theorem resend_storageKept (s : State) : storageKept s (resend s) :=
  storageKept_ite (.refl s) (storageKept_ite (.refl s) (storageKept_ite_self (.refl s)))

theorem respTimeout_storageKept (s : State) : storageKept s (respTimeout s) := by
  unfold respTimeout
  dsimp only
  exact storageKept_ite (storageKept_ite (resend_storageKept s) (openFail_storageKept _ _))
    ((endReply_storageKept _).after ((emit_storageKept _ _).after (raise_storageKept _ s)))

theorem watchdogExpire_storageKept (s : State) : storageKept s (watchdogExpire s) :=
  (emit_storageKept _ _).after <| (enterBackoff_storageKept _).after <| (closeLink_storageKept _).after <|
    (raise_storageKept .watchdog s).after (.refl s)

theorem versionReply_storageKept (v : Byte) (s : State) : storageKept s (versionReply v s) :=
  storageKept_ite (.refl s) (storageKept_ite (.refl s) (raise_storageKept _ _))

theorem ackReply_storageKept (c : Byte) (s : State) : storageKept s (ackReply c s) := by
  unfold ackReply
  refine storageKept_ite_self ?_
  cases s.link.state with
  | config => exact .refl s
  | freq => exact openSucceeded_storageKept s
  | opened => exact (endReply_storageKept _).after (emit_storageKept _ s)
  | closed | version | backoff => exact .refl s

theorem nakReply_storageKept (c r : Byte) (s : State) : storageKept s (nakReply c r s) := by
  unfold nakReply
  have hreported : storageKept s (emit (.ackNak 0x7F#8 c r) { s with link := { s.link with lastNak := r } }) :=
    (emit_storageKept _ _).after (.refl s)
  refine storageKept_ite_self (storageKept.after ?_ hreported)
  dsimp only
  split
  · exact openFail_storageKept _ _
  · exact openFail_storageKept _ _
  · exact (endReply_storageKept _).after (raise_storageKept _ _)
  all_goals exact .refl _

theorem doLinkOpen_storageKept (s : State) : storageKept s (doLinkOpen s) := by
  unfold doLinkOpen
  cases s.link.state with
  | closed | backoff => exact .refl s
  | version | config | freq | opened => exact raise_storageKept _ _

theorem doLinkClose_storageKept (s : State) : storageKept s (doLinkClose s) :=
  (emit_storageKept _ _).after (closeLink_storageKept s)

theorem doLinkSetMode_storageKept (mode : Byte) (s : State) : storageKept s (doLinkSetMode mode s) :=
  storageKept_ite (raise_storageKept _ _) (.refl s)

/-! #### Inbound frames (R521, R522): these may queue a tagged frame in `rxq` -/

theorem m17Frame_boundsKept (tag : BitVec 3) (p : List Byte) (s : State) : boundsKept s (m17Frame tag p s) :=
  boundsKept_ite (.refl s) (boundsKept_ite (raise_storageKept _ _).bounds (pushRxq_boundsKept _ _))

theorem doSerM17Lost_boundsKept (p : List Byte) (s : State) : boundsKept s (doSerM17Lost p s) :=
  boundsKept_ite (pushRxq_boundsKept _ _) (.refl s)

theorem doSerGetVersion_storageKept (p : List Byte) (s : State) : storageKept s (doSerGetVersion p s) := by
  cases p with
  | nil => exact raise_storageKept _ _
  | cons v rest => exact versionReply_storageKept _ _

theorem doSerGetStatus_storageKept (p : List Byte) (s : State) : storageKept s (doSerGetStatus p s) :=
  storageKept_ite (.refl s) (storageKept_ite (raise_storageKept _ _) (.refl s))

theorem doSerAck_storageKept (p : List Byte) (s : State) : storageKept s (doSerAck p s) := by
  cases p with
  | nil => exact raise_storageKept _ _
  | cons c rest => exact ackReply_storageKept _ _

theorem doSerNak_storageKept (p : List Byte) (s : State) : storageKept s (doSerNak p s) := by
  unfold doSerNak
  split
  · exact nakReply_storageKept _ _ _
  · exact raise_storageKept _ _

theorem exec_serial_boundsKept {i : Instr} (hi : isSerial i = true) {s t : State} (h : exec i s = .next t) :
    boundsKept s t := by
  cases i
  case serGetVersion p => cases h; exact (doSerGetVersion_storageKept _ _).bounds
  case serGetStatus p => cases h; exact (doSerGetStatus_storageKept _ _).bounds
  case serSetConfig p | serSetMode p | serSetFreq p => cases h; exact (raise_storageKept _ _).bounds
  case serM17LinkSetup p | serM17Stream p | serM17Packet p => cases h; exact m17Frame_boundsKept _ _ _
  case serM17Lost p => cases h; exact doSerM17Lost_boundsKept _ _
  case serAck p => cases h; exact (doSerAck_storageKept _ _).bounds
  case serNak p => cases h; exact (doSerNak_storageKept _ _).bounds
  case serDebug1 p | serDebug2 p | serDebug3 p | serDebug4 p | serDebug5 p =>
    cases h; exact (emit_storageKept _ _).bounds
  all_goals cases hi

theorem handleFrame_boundsKept (type : Byte) (p : List Byte) (s : State) :
    boundsKept s (handleFrame type p s) := by
  obtain h | ⟨i, hi, h⟩ := handleFrame_cases type p s
  · rw [h]; exact (raise_storageKept _ _).bounds
  · exact exec_serial_boundsKept hi h

/-! #### A tick (R500) -/

theorem completeFrame_boundsKept (s : State) : boundsKept s (completeFrame s) :=
  boundsKept_ite ((raise_storageKept _ _).bounds.after (.refl s)) ((handleFrame_boundsKept _ _ _).after (.refl s))

theorem completeOr_boundsKept (p : ParserPos) (s : State) : boundsKept s (completeOr p s) :=
  boundsKept_ite (completeFrame_boundsKept s) (.refl s)

theorem parseByte_boundsKept (b : Byte) (s : State) : boundsKept s (parseByte b s) := by
  unfold parseByte
  cases s.parser.pos with
  | start => exact boundsKept_ite (.refl s) (.refl s)
  | length1 =>
    have hraised : boundsKept s (raise .serFraming (storeByte b s)) :=
      (raise_storageKept _ _).bounds.after (.refl s)
    exact boundsKept_ite (.refl s) (boundsKept_ite hraised (.refl s))
  | length2 => exact .refl s
  | type => exact (completeOr_boundsKept _ _).after (.refl s)
  | data => exact (completeOr_boundsKept _ _).after (.refl s)

theorem foldl_parseByte_boundsKept (bytes : List Byte) (s : State) :
    boundsKept s (bytes.foldl (fun s b => parseByte b s) s) := by
  induction bytes generalizing s with
  | nil => exact .refl s
  | cons b rest ih => exact (ih _).after (parseByte_boundsKept b s)

theorem parseBytes_boundsKept (bytes : List Byte) (s : State) : boundsKept s (parseBytes bytes s) :=
  boundsKept_ite (foldl_parseByte_boundsKept bytes s) (.refl s)

theorem rxLoop_boundsKept (q : List TaggedFrame) (s : State) : boundsKept s (rxLoop q s) := by
  induction q generalizing s with
  | nil => exact .refl s
  | cons e rest ih => exact (ih _).after ((rxProcess_storageKept e _).bounds.after (.refl s))

/-- R502: what the loop pops is the whole queue, since no frame's processing queues another. -/
theorem rxLoop_rxq {q : List TaggedFrame} {s : State} (h : s.rxq = q) : (rxLoop q s).rxq = [] := by
  induction q generalizing s with
  | nil => exact h
  | cons e rest ih => exact ih (rxProcess_storageKept e { s with rxq := rest }).rxq

theorem txDrain_storageKept (s : State) : storageKept s (txDrain s) := by
  unfold txDrain
  refine storageKept_ite_self ?_
  split
  · exact .refl s
  · next e rest hq => exact storageKept_withTxq (length_pop_le hq)

theorem backoffAction_storageKept (s : State) : storageKept s (backoffAction s) := storageKept_ite_self (.refl s)

theorem portAction_storageKept (ok : Bool) (s : State) : storageKept s (portAction ok s) :=
  storageKept_ite_self (portOpenAttempt_storageKept _ _)

theorem respAction_storageKept (s : State) : storageKept s (respAction s) :=
  storageKept_ite_self (respTimeout_storageKept s)

theorem watchdogAction_storageKept (s : State) : storageKept s (watchdogAction s) :=
  storageKept_ite_self (watchdogExpire_storageKept s)

theorem pollAction_storageKept (s : State) : storageKept s (pollAction s) := storageKept_ite_self (.refl s)

theorem timerActions_storageKept (ok : Bool) (s : State) : storageKept s (timerActions ok s) :=
  (pollAction_storageKept _).after <| (watchdogAction_storageKept _).after <| (respAction_storageKept _).after <|
    (portAction_storageKept ok _).after (backoffAction_storageKept s)

/-- The phases after the third, in which nothing is received. -/
theorem txDrain_timerActions_storageKept (ok : Bool) (s : State) : storageKept s (timerActions ok (txDrain s)) :=
  (timerActions_storageKept ok _).after (txDrain_storageKept s)

theorem tick_boundsKept (dt : Nat) (bytes : List Byte) (ok : Bool) (s : State) :
    boundsKept s (tick dt bytes ok s) :=
  (txDrain_timerActions_storageKept ok _).bounds.after <| (rxLoop_boundsKept _ _).after <|
    (parseBytes_boundsKept bytes (advanceTimers dt s)).after (.refl s)

/-- R502: phase 3 empties `rxq`, and no later phase fills it. -/
theorem tick_rxq (dt : Nat) (bytes : List Byte) (ok : Bool) (s : State) : (tick dt bytes ok s).rxq = [] :=
  (txDrain_timerActions_storageKept ok _).rxq.trans (rxLoop_rxq rfl)

/-! #### The transmit builder (46_tx_builder.md) -/

theorem doTxStart_storageKept (s : State) : storageKept s (doTxStart s) :=
  storageKept_ite (raise_storageKept _ _) (.refl s)

theorem headerFirst_storageKept (s : State) : storageKept s (headerFirst s) :=
  storageKept_ite_self (pushTxq_storageKept _ s)

theorem latchLich_storageKept (s : State) : storageKept s (latchLich s) :=
  storageKept_ite_self (storageKept_ite (.refl s) (.refl s))

theorem doTxPayload_storageKept (eos : Bool) (s : State) : storageKept s (doTxPayload eos s) := by
  unfold doTxPayload
  split
  · exact raise_storageKept _ _
  · exact storageKept_withTx <| (putRes0_storageKept _ _).after <| (pushTxq_storageKept _ _).after <|
      (latchLich_storageKept _).after (headerFirst_storageKept s)

theorem doTxEnd_storageKept (s : State) : storageKept s (doTxEnd s) := by
  unfold doTxEnd
  split
  · exact raise_storageKept _ _
  · exact .refl s
  all_goals exact (pushTxq_storageKept _ _).after (.refl s)

/-! #### The host port (48_host_port.md) -/

theorem doCrc16_storageKept (n : BitVec 10) (s : State) : storageKept s (doCrc16 n s) :=
  storageKept_ite (raise_storageKept _ _) (putRes0_storageKept _ s)

theorem doLdec_storageKept (s : State) : storageKept s (doLdec s) :=
  putScrOut_storageKept (lichDecode s.cfg.codec (scrInSeq 96 s)).1 s

theorem doEvPop_storageKept (s : State) : storageKept s (doEvPop s) := by
  unfold doEvPop
  split
  · exact putRes_storageKept _ _ s
  · next ev rest hq => exact (putRes_storageKept _ _ _).after <|
      (memWrite_storageKept _ _ _ _).after (storageKept_withEvq (length_pop_le hq))

theorem doPlPop_storageKept (s : State) : storageKept s (doPlPop s) := by
  unfold doPlPop
  split
  · exact putRes_storageKept _ _ s
  · next r rest hq => exact (putRes_storageKept _ _ _).after <|
      (memWrite_storageKept _ _ _ _).after (storageKept_withPlq (length_pop_le hq))

theorem exec_command_storageKept {i : Instr} (hi : isCommand i = true) {s t : State} (h : exec i s = .next t) :
    storageKept s t := by
  cases i
  case nop | rxReset | txNextLsf | genc d | gdec w => cases h; exact .refl s
  case cencLsf | cencStr | ilv | dilv | scr | lenc => cases h; exact putScrOut_storageKept _ _
  case cdecLsf | cdecLsfSoft | cdecStr | cdecStrSoft => cases h; exact putDecoded_storageKept _ _
  case crc16 n => cases h; exact doCrc16_storageKept _ _
  case ldec => cases h; exact doLdec_storageKept _
  case rxInject tag has => cases h; exact doRxInject_storageKept _ _ _
  case txStart => cases h; exact doTxStart_storageKept _
  case txPayload eos => cases h; exact doTxPayload_storageKept _ _
  case txEnd => cases h; exact doTxEnd_storageKept _
  case linkOpen => cases h; exact doLinkOpen_storageKept _
  case linkClose => cases h; exact doLinkClose_storageKept _
  case linkSetMode mode => cases h; exact doLinkSetMode_storageKept _ _
  case evPop => cases h; exact doEvPop_storageKept _
  case plPop => cases h; exact doPlPop_storageKept _
  all_goals cases hi

theorem execute_storageKept (word : Word) (s : State) : storageKept s (execute word s) := by
  obtain h | ⟨i, hi, h⟩ := execute_cases word s
  · rw [h]; exact raise_storageKept _ _
  · exact exec_command_storageKept hi h

theorem writeReg_storageKept (sel : Byte) (data : Word) (s : State) : storageKept s (writeReg sel data s) := by
  unfold writeReg
  split
  iterate 5 exact .refl s
  · exact execute_storageKept data s
  · exact raise_storageKept _ _

theorem doRd_storageKept (sel : Byte) (s : State) : storageKept s (doRd sel s) := by
  unfold doRd
  cases readReg sel s with
  | some v => exact .refl s
  | none => exact raise_storageKept _ s

theorem doBrd_storageKept (sp : Byte) (off : BitVec 16) (s : State) : storageKept s (doBrd sp off s) := by
  unfold doBrd
  obtain ⟨_, _, -, -, h⟩ | h := hostBufRead_cases sp off.toNat s
  · rw [h]; exact .refl s
  · rw [h]; exact raise_storageKept _ s

theorem doBwr_storageKept (sp : Byte) (off : BitVec 16) (data : Byte) (s : State) :
    storageKept s (doBwr sp off data s) := by
  unfold doBwr
  obtain ⟨_, -, -, h⟩ | h := hostBufWrite_cases sp off.toNat data s
  · rw [h]; exact memWrite_storageKept _ _ _ s
  · rw [h]; exact raise_storageKept _ s

/-- A host transaction keeps the storage (R580). -/
theorem exec_decodePort_storageKept (w : BitVec 64) {s t : State} (h : exec (decodePort w) s = .next t) :
    storageKept s t := by
  unfold decodePort at h
  dsimp only at h
  split at h
  · cases h; exact doRd_storageKept _ _
  · split at h
    · cases h; exact writeReg_storageKept _ _ _
    · split at h
      · cases h; exact doBrd_storageKept _ _ _
      · cases h; exact doBwr_storageKept _ _ _ _

/-! #### Every step -/

/-- A reset empties the memory and the queues (70_reset_and_hazards.md R680). -/
theorem resetStep_boundsKept (s : State) : boundsKept s (resetStep s) :=
  ⟨fun _ => resetWith_wf s.cfg, fun _ => Nat.zero_le _, fun _ => Nat.zero_le _, fun _ => Nat.zero_le _⟩

/-- What a step can do to the memory and the queues: it keeps their bounds, and it leaves `rxq` alone or
empties it. -/
theorem step_boundsKept {s t : State} (h : step s = .next t) :
    boundsKept s t ∧ (t.rxq = s.rxq ∨ t.rxq = []) := by
  obtain ⟨-, rfl⟩ | ⟨e, rest, -, hstep⟩ := step_cases s t h
  · exact ⟨.refl _, .inl rfl⟩
  · have hfetched : boundsKept s { s with inputs := rest, serialOut := [] } := .refl s
    obtain ⟨w, -, hexec⟩ | ⟨dt, bytes, ok, -, rfl⟩ | ⟨-, rfl⟩ := hstep
    · have hport := exec_decodePort_storageKept w hexec
      exact ⟨hport.bounds.after hfetched, .inl hport.rxq⟩
    · exact ⟨(tick_boundsKept dt bytes ok _).after hfetched, .inr (tick_rxq dt bytes ok _)⟩
    · exact ⟨resetStep_boundsKept _, .inr rfl⟩

/-- Settles O54: memory is changed by byte stores, which keep the canonical form, and by a reset, which empties
it. -/
theorem stepKeepsMemoryCanonical : Obligations.StepKeepsMemoryCanonical := by
  unfold Obligations.StepKeepsMemoryCanonical
  intro s t hwf h
  obtain ⟨⟨hmem, -, -, -⟩, -⟩ := step_boundsKept h
  exact hmem hwf

/-- Settles O56: a push is refused by a full queue, and a tick processes every frame it queued in `rxq`. -/
theorem stepKeepsQueuesBounded : Obligations.StepKeepsQueuesBounded := by
  unfold Obligations.StepKeepsQueuesBounded
  intro s t ⟨hrxq, htxq, hevq, hplq⟩ h
  obtain ⟨⟨-, htx, hev, hpl⟩, hrx⟩ := step_boundsKept h
  exact ⟨hrx.elim (·.trans hrxq) id, htx htxq, hev hevq, hpl hplq⟩

end Sys2Proof.Machine
end

section
/-! ### What the encodings decode to, and back (30_encoding.md, 48_host_port.md R586, R587)

One lemma for a `PORT` word, one for a `CMD` word and one for a serial frame as the writer builds it say what the
decoder reads in it, for all field values; a tag record is read field by field as it stands. The obligations are uses
of these. -/

namespace Sys2Proof.Machine

/-! #### `PORT` words -/

/-- R181: the fields of a `PORT` word lie where the decoder reads them; the reserved bits `res` belong to none. -/
theorem portWord_fields (kind : BitVec 2) (sel : Byte) (off : BitVec 16) (res : BitVec 6) (data : Word) :
    (kind ++ sel ++ off ++ res ++ data).extractLsb' 62 2 = kind ∧
    (kind ++ sel ++ off ++ res ++ data).extractLsb' 54 8 = sel ∧
    (kind ++ sel ++ off ++ res ++ data).extractLsb' 38 16 = off ∧
    (kind ++ sel ++ off ++ res ++ data).extractLsb' 0 32 = data ∧
    (kind ++ sel ++ off ++ res ++ data).extractLsb' 0 8 = data.extractLsb' 0 8 := by
  refine ⟨?kind, ?sel, ?off, BitVec.extractLsb'_append_eq_right,
    BitVec.extractLsb'_append_eq_of_add_le (by decide)⟩
  case kind =>
    iterate 4 rw [BitVec.extractLsb'_append_eq_of_le (by decide)]
    exact BitVec.extractLsb'_eq_self
  case sel =>
    iterate 3 rw [BitVec.extractLsb'_append_eq_of_le (by decide)]
    exact BitVec.extractLsb'_append_eq_right
  case off =>
    iterate 2 rw [BitVec.extractLsb'_append_eq_of_le (by decide)]
    exact BitVec.extractLsb'_append_eq_right

theorem decode_port_append (kind : BitVec 2) (sel : Byte) (off : BitVec 16) (res : BitVec 6) (data : Word) :
    decode (.port (kind ++ sel ++ off ++ res ++ data)) = .ok
      (if kind = 0#2 then .rd sel else if kind = 1#2 then .wr sel data
        else if kind = 2#2 then .brd sel off else .bwr sel off (data.extractLsb' 0 8)) := by
  obtain ⟨hkind, hsel, hoff, hdata, hbyte⟩ := portWord_fields kind sel off res data
  rw [decode, decodePort, hkind, hsel, hoff, hdata, hbyte]

/-! #### `CMD` words -/

/-- R182 to R185: the code selects the row of the command table, which reads `imm`. -/
theorem decode_cmd_append (op : Byte) (imm : BitVec 24) :
    decode (.cmd (op ++ imm)) =
      (cmdTable.lookup op).elim (.error .reservedOp) fun row => .ok (row imm) := by
  have hop : (op ++ imm).extractLsb' 24 8 = op := BitVec.extractLsb'_append_eq_left
  have himm : (op ++ imm).extractLsb' 0 24 = imm := BitVec.extractLsb'_append_eq_right
  rw [decode, decodeCmd, hop, himm]
  cases cmdTable.lookup op <;> rfl

theorem decode_cmd_of_lookup {op : Byte} {row : BitVec 24 → Instr} {imm : BitVec 24} {i : Instr}
    (h : cmdTable.lookup op = some row) (hi : row imm = i) : decode (.cmd (op ++ imm)) = .ok i := by
  rw [decode_cmd_append, h, ← hi]
  rfl

theorem decode_cmd_eq_reservedOp_iff (op : Byte) (imm : BitVec 24) :
    decode (.cmd (op ++ imm)) = .error .reservedOp ↔ cmdTable.lookup op = none := by
  rw [decode_cmd_append]
  cases cmdTable.lookup op with
  | some row => exact iff_of_false nofun nofun
  | none => exact iff_of_true rfl rfl

/-- R185: the codes between and above those of R184. -/
theorem lookup_cmdTable_eq_none_iff (op : Byte) :
    cmdTable.lookup op = none ↔
      (op = 0x0F#8 ∨ (0x12 ≤ op.toNat ∧ op.toNat ≤ 0x1F) ∨ (0x24 ≤ op.toNat ∧ op.toNat ≤ 0x2F) ∨
        (0x33 ≤ op.toNat ∧ op.toNat ≤ 0x3F) ∨ 0x42 ≤ op.toNat) := by
  rw [List.lookup_eq_none_iff]
  simp only [cmdTable, List.forall_mem_cons, List.not_mem_nil, false_implies, implies_true, and_true, bne_iff_ne,
    ne_eq, ← BitVec.toNat_inj, BitVec.toNat_ofNat]
  omega

theorem isCommand_of_mem_cmdTable (imm : BitVec 24) : ∀ e ∈ cmdTable, isCommand (e.2 imm) = true :=
  List.all_eq_true.mp (rfl : cmdTable.all (fun e => isCommand (e.2 imm)) = true)

/-- The command table yields no instruction of another format. -/
theorem isCommand_of_decodeCmd {word : Word} {i : Instr} (h : decodeCmd word = .ok i) : isCommand i = true := by
  unfold decodeCmd at h
  split at h
  next row hrow =>
    cases h
    obtain ⟨_, _, htable, -⟩ := List.lookup_eq_some_iff.mp hrow
    have hmem : (word.extractLsb' 24 8, row) ∈ cmdTable := by rw [htable]; exact List.mem_append_cons_self
    exact isCommand_of_mem_cmdTable _ _ hmem
  next => cases h

/-! #### Serial frames -/

/-- R210 to R212: a frame as the writer builds it, short or long, is read back as its type and payload. The short
form's length byte is at least 3 and so never the escape; in both forms the length fits its byte. -/
theorem decodeSer_serFrame {c : SerialCodes} (hc : c.wf = true) (type : Byte) {p : List Byte}
    (hp : p.length ≤ 251 + c.len2Bias) : decodeSer c (serFrame type p c) = decodeSerBody c type p := by
  simp only [SerialCodes.wf, Bool.and_eq_true, decide_eq_true_eq] at hc
  obtain ⟨⟨⟨-, hescape⟩, -⟩, hbias⟩ := hc
  unfold serFrame
  split
  case isTrue hshort =>
    have hlen : (BitVec.ofNat 8 (p.length + 3)).toNat = p.length + 3 := Nat.mod_eq_of_lt (by omega)
    have hne : BitVec.ofNat 8 (p.length + 3) ≠ c.lenEscape := fun h => by rw [← h] at hescape; omega
    simp [decodeSer, hlen, hne, -BitVec.toNat_ofNat]
  case isFalse hlong =>
    have hlen : (BitVec.ofNat 8 (p.length + 4 - c.len2Bias)).toNat = p.length + 4 - c.len2Bias :=
      Nat.mod_eq_of_lt (by omega)
    have hsum : p.length + 4 = p.length + 4 - c.len2Bias + c.len2Bias := by omega
    simp [decodeSer, hlen, ← hsum, -BitVec.toNat_ofNat]

/-- R211, R213: with the default codes, for every payload that fits a frame. -/
theorem decode_serFrame_of_lookup {type : Byte} {row : List Byte → Instr} {p : List Byte}
    (h : (serTable .standard).lookup type = some row) (hp : payloadFits p = true) :
    decode (.ser (serFrame type p)) = .ok (row p) := by
  have hlen : p.length ≤ 506 := of_decide_eq_true hp
  rw [decode, decodeSer_serFrame rfl type hlen, decodeSerBody, h]

/-! #### Decoding an encoding -/

/-- R183: `imm` carries each command's operands where its row reads them. -/
theorem decode_encode_command {i : Instr} (hi : isCommand i = true) : decode (encode i) = .ok i := by
  cases i
  case genc d =>
    have hd : (0#12 ++ d).extractLsb' 0 12 = d := BitVec.extractLsb'_append_eq_right
    exact decode_cmd_of_lookup rfl (congrArg Instr.genc hd)
  case gdec w => exact decode_cmd_append _ w
  case crc16 n =>
    have hn : (0#14 ++ n).extractLsb' 0 10 = n := BitVec.extractLsb'_append_eq_right
    exact decode_cmd_of_lookup rfl (congrArg Instr.crc16 hn)
  case rxInject tag hasRssi =>
    have htag : (0#20 ++ BitVec.ofBool hasRssi ++ tag).extractLsb' 0 3 = tag :=
      BitVec.extractLsb'_append_eq_right
    have hhas : (0#20 ++ BitVec.ofBool hasRssi ++ tag).getLsbD 3 = hasRssi := by
      rw [BitVec.getLsbD_append, BitVec.getLsbD_append]; simp
    exact decode_cmd_of_lookup rfl (congrArg₂ Instr.rxInject htag hhas)
  case txPayload eos =>
    have heos : (0#23 ++ BitVec.ofBool eos).getLsbD 0 = eos := by rw [BitVec.getLsbD_append]; simp
    exact decode_cmd_of_lookup rfl (congrArg Instr.txPayload heos)
  case linkSetMode mode =>
    have hmode : (0#16 ++ mode).extractLsb' 0 8 = mode := BitVec.extractLsb'_append_eq_right
    exact decode_cmd_of_lookup rfl (congrArg Instr.linkSetMode hmode)
  case nop | cencLsf | cdecLsf | cdecLsfSoft | cencStr | cdecStr | cdecStrSoft | ilv | dilv | scr | lenc | ldec
      | rxReset | txStart | txEnd | txNextLsf | linkOpen | linkClose | evPop | plPop =>
    exact decode_cmd_append _ 0#24
  all_goals cases hi

/-- Settles O1, format by format. -/
theorem decodeInvertsEncode : Obligations.DecodeInvertsEncode := by
  unfold Obligations.DecodeInvertsEncode
  intro i hwf
  cases i
  case rd sel => exact decode_port_append 0#2 sel 0#16 0#6 0#32
  case wr sel data => exact decode_port_append 1#2 sel 0#16 0#6 data
  case brd sel off => exact decode_port_append 2#2 sel off 0#6 0#32
  case bwr sel off data =>
    have hdata : (0#24 ++ data).extractLsb' 0 8 = data := BitVec.extractLsb'_append_eq_right
    exact (decode_port_append 3#2 sel off 0#6 (0#24 ++ data)).trans (congrArg (Except.ok ∘ Instr.bwr sel off) hdata)
  case serGetVersion p | serGetStatus p | serSetConfig p | serSetMode p | serSetFreq p | serM17LinkSetup p
      | serM17Stream p | serM17Packet p | serM17Lost p | serAck p | serNak p | serDebug1 p | serDebug2 p
      | serDebug3 p | serDebug4 p | serDebug5 p =>
    exact decode_serFrame_of_lookup (by rfl) hwf
  case tagHeader | tagData | tagData2 | tagLost | tagEot => rfl
  all_goals exact decode_encode_command rfl

/-- Settles O2: the four kinds, and each command code with its row of the table. -/
theorem wordFieldsDecode : Obligations.WordFieldsDecode := by
  unfold Obligations.WordFieldsDecode
  refine ⟨fun sel off res data => ⟨?rd, ?wr, ?brd, ?bwr⟩, fun imm => ?cmd⟩
  case rd => exact decode_port_append 0#2 sel off res data
  case wr => exact decode_port_append 1#2 sel off res data
  case brd => exact decode_port_append 2#2 sel off res data
  case bwr => exact decode_port_append 3#2 sel off res data
  case cmd => and_intros <;> exact decode_cmd_append _ imm

/-- Settles O3: the decoder evaluates on each of the eight words. -/
theorem writtenOutWordsDecode : Obligations.WrittenOutWordsDecode := by
  unfold Obligations.WrittenOutWordsDecode
  exact ⟨rfl, rfl, rfl, rfl, rfl, rfl, rfl, rfl⟩

/-! #### A write to `CMD` -/

/-- R582: a write to `CMD` executes the word and returns 0. -/
theorem exec_wr_cmd (word : Word) (s : State) :
    exec (.wr 0x10#8 word) s = .next { execute word s with portOut := 0#32 } := rfl

/-- R587: a word that decodes runs its command. -/
theorem exec_of_decodeCmd {word : Word} {i : Instr} (h : decodeCmd word = .ok i) (s : State) :
    exec i s = .next (execute word s) := by
  have hi := isCommand_of_decodeCmd h
  rw [execute, h]
  cases i
  case nop | genc | gdec | cencLsf | cdecLsf | cdecLsfSoft | cencStr | cdecStr | cdecStrSoft | ilv | dilv | scr
      | crc16 | lenc | ldec | rxInject | rxReset | txStart | txPayload | txEnd | txNextLsf | linkOpen | linkClose
      | linkSetMode | evPop | plPop => rfl
  all_goals cases hi

/-- R185. -/
theorem execute_of_decodeCmd_error {word : Word} {e : DecodeError} (h : decodeCmd word = .error e) (s : State) :
    execute word s = raise .badOp s := by
  rw [execute, h]

/-- Settles O6: `execute` agrees with `exec` on the decoded command, and the codes missing from the table are the
reserved ones. -/
theorem commandWriteRunsCommand : Obligations.CommandWriteRunsCommand := by
  unfold Obligations.CommandWriteRunsCommand
  refine ⟨fun s word => ⟨fun i h => ?runs, fun e h => ?rejected⟩, fun s => rfl, fun op imm => ?reserved⟩
  case runs => exact ⟨execute word s, exec_of_decodeCmd h s, exec_wr_cmd word s⟩
  case rejected => rw [exec_wr_cmd, execute_of_decodeCmd_error h]
  case reserved => rw [decode_cmd_eq_reservedOp_iff, lookup_cmdTable_eq_none_iff]

end Sys2Proof.Machine
end

section
/-! ### The interleaver and the scrambler, and the commands of unit BTL (41_bit_transform.md)

A body's bits are followed by their positions: `interleave` puts bit `i` at position `p[i]`, `deinterleave` reads it
from there. The rule's positions are an involution, so they are a permutation and the two functions agree. -/

namespace Sys2Proof.Machine

/-! #### Bits of a sequence -/

@[simp] theorem length_seqBits {n : Nat} (s : BitVec n) : (seqBits s).length = n := by simp [seqBits]

@[simp] theorem getElem_seqBits {n : Nat} (s : BitVec n) (i : Nat) (hi : i < (seqBits s).length) :
    (seqBits s)[i] = s.getMsbD i := by simp [seqBits]

/-- The number read from bits, first bit most significant, has them as its binary digits. -/
theorem testBit_foldl_bits (bits : List Bool) (k : Nat) :
    (bits.foldl (fun (acc : Nat) (b : Bool) => 2 * acc + b.toNat) 0).testBit k = bits.reverse.getD k false := by
  induction bits using List.reverseRecOn generalizing k with
  | nil => simp
  | append_singleton bits b ih =>
    rw [List.foldl_append, List.foldl_cons, List.foldl_nil, ← Nat.bit_val, List.reverse_append]
    cases k with
    | zero => exact Nat.testBit_bit_zero b _
    | succ k => exact (Nat.testBit_bit_succ k b _).trans (ih k)

/-- R13: bit `i` of the sequence with these bits. -/
theorem getMsbD_seqOfBits {n : Nat} {bits : List Bool} (hlen : bits.length = n) {i : Nat} (hi : i < bits.length) :
    (seqOfBits n bits).getMsbD i = bits[i] := by
  subst hlen
  have hrev : bits.length - 1 - i < bits.reverse.length := by rw [List.length_reverse]; omega
  have hback : bits.length - 1 - (bits.length - 1 - i) = i := by omega
  rw [BitVec.getMsbD_eq_getLsbD, seqOfBits, BitVec.getLsbD_ofNat, testBit_foldl_bits,
    List.getD_eq_getElem _ _ hrev, List.getElem_reverse]
  simp only [hback, hi, decide_true, Bool.true_and, Bool.and_eq_right_iff_imp, decide_eq_true_eq]
  omega

/-! #### Interleaving with any permutation of the positions -/

/-- One step of `interleave`: a set bit is put at its position. -/
def placeBit (out : Body) (pb : Nat × Bool) : Body := if pb.2 then out ||| (1#368 <<< (367 - pb.1)) else out

theorem interleave_eq_foldl_placeBit (p : List Nat) (s : Body) :
    interleave p s = (p.zip (seqBits s)).foldl placeBit 0#368 := rfl

theorem getMsbD_placeBit_iff {out : Body} {pb : Nat × Bool} (hpos : pb.1 < 368) (j : Nat) :
    (placeBit out pb).getMsbD j = true ↔ out.getMsbD j = true ∨ (j, true) = pb := by
  obtain ⟨pos, bit⟩ := pb
  cases bit with
  | false => simp [placeBit]
  | true =>
    have hone : (1#368 <<< (367 - pos)).getMsbD j = true ↔ j = pos := by
      simp only [BitVec.getMsbD_eq_getLsbD, BitVec.getLsbD_shiftLeft, BitVec.getLsbD_one, Bool.and_eq_true,
        Bool.not_eq_true', decide_eq_true_eq, decide_eq_false_iff_not]
      omega
    rw [placeBit, if_pos rfl, BitVec.getMsbD_or, Bool.or_eq_true, hone, Prod.mk.injEq, and_iff_left rfl]

theorem getMsbD_foldl_placeBit_iff {l : List (Nat × Bool)} (hpos : ∀ pb ∈ l, pb.1 < 368) (out : Body) (j : Nat) :
    (l.foldl placeBit out).getMsbD j = true ↔ out.getMsbD j = true ∨ (j, true) ∈ l := by
  induction l generalizing out with
  | nil => simp
  | cons pb l ih =>
    obtain ⟨hpb, hl⟩ := List.forall_mem_cons.mp hpos
    rw [List.foldl_cons, ih hl, getMsbD_placeBit_iff hpb, List.mem_cons, or_assoc]

/-- Position `j` of the interleaved body is set exactly when a set bit goes there. -/
theorem getMsbD_interleave_iff {p : List Nat} (hpos : ∀ j ∈ p, j < 368) (s : Body) (j : Nat) :
    (interleave p s).getMsbD j = true ↔ (j, true) ∈ p.zip (seqBits s) := by
  rw [interleave_eq_foldl_placeBit, getMsbD_foldl_placeBit_iff fun pb hpb => hpos pb.1 (List.of_mem_zip hpb).1]
  simp

/-- R251: when no two bits share a position, position `p[i]` holds bit `i`. -/
theorem getMsbD_interleave {p : List Nat} (hp : p.Perm (List.range 368)) (s : Body) {i : Nat}
    (hi : i < p.length) : (interleave p s).getMsbD p[i] = s.getMsbD i := by
  have hlen : p.length = 368 := hp.length_eq.trans List.length_range
  have hpos : ∀ j ∈ p, j < 368 := fun j hj => List.mem_range.mp (hp.mem_iff.mp hj)
  have hnodup : p.Nodup := hp.nodup_iff.mpr List.nodup_range
  rw [Bool.eq_iff_iff, getMsbD_interleave_iff hpos, List.mem_iff_getElem]
  constructor
  case mp =>
    rintro ⟨k, hk, hzip⟩
    obtain ⟨hsame, hbit⟩ := Prod.mk.inj (List.getElem_zip.symm.trans hzip)
    obtain rfl : k = i := hnodup.getElem_inj_iff.mp hsame
    rwa [getElem_seqBits] at hbit
  case mpr =>
    intro hbit
    exact ⟨i, by simp [hlen, hlen ▸ hi], by simp [hbit]⟩

/-- R252. -/
theorem getMsbD_deinterleave {p : List Nat} (hlen : p.length = 368) (s : Body) {i : Nat} (hi : i < p.length) :
    (deinterleave p s).getMsbD i = s.getMsbD p[i] := by
  have hmap : (p.map fun j => s.getMsbD j).length = 368 := by rw [List.length_map, hlen]
  rw [deinterleave, getMsbD_seqOfBits hmap (by rwa [List.length_map]), List.getElem_map]

/-- R252: each bit is read from where it was put. -/
theorem deinterleave_interleave {p : List Nat} (hp : p.Perm (List.range 368)) (s : Body) :
    deinterleave p (interleave p s) = s := by
  have hlen : p.length = 368 := hp.length_eq.trans List.length_range
  refine BitVec.eq_of_getMsbD_eq fun i hi => ?_
  rw [getMsbD_deinterleave hlen _ (hlen ▸ hi), getMsbD_interleave hp]

/-! #### The rule's permutation -/

/-- R251: the position of bit `i`. -/
def interleavePos (i : Nat) : Nat := (45 * i + 92 * i * i) % 368

theorem standard_interleaveP : Codec.standard.interleaveP = (List.range 368).map interleavePos :=
  List.map_congr_left fun _ _ => rfl

theorem interleavePos_lt (i : Nat) : interleavePos i < 368 := Nat.mod_lt _ (by decide)

/-- Modulo 368 the positions of the positions are i + 184·i·(i + 1), and i·(i + 1) is even. -/
theorem interleavePos_interleavePos {i : Nat} (hi : i < 368) : interleavePos (interleavePos i) = i := by
  obtain ⟨t, ht⟩ : ∃ t, i * (i + 1) = t + t := Nat.even_mul_succ_self i
  have hmod : interleavePos i ≡ 45 * i + 92 * i * i [MOD 368] := Nat.mod_modEq _ _
  have hpoly : 45 * (45 * i + 92 * i * i) + 92 * (45 * i + 92 * i * i) * (45 * i + 92 * i * i) =
      i + 368 * (11 * t + 512 * i ^ 2 + 2070 * i ^ 3 + 2116 * i ^ 4) := by
    linear_combination 2024 * ht
  calc interleavePos (interleavePos i)
      = (45 * (45 * i + 92 * i * i) + 92 * (45 * i + 92 * i * i) * (45 * i + 92 * i * i)) % 368 :=
        ((hmod.mul_left 45).add ((hmod.mul_left 92).mul hmod))
    _ = i := by rw [hpoly, Nat.add_mul_mod_self_left, Nat.mod_eq_of_lt hi]

theorem perm_standard_interleaveP : Codec.standard.interleaveP.Perm (List.range 368) := by
  have hinj : ∀ i ∈ List.range 368, ∀ j ∈ List.range 368, interleavePos i = interleavePos j → i = j := by
    intro i hi j hj hij
    rw [← interleavePos_interleavePos (List.mem_range.mp hi), hij,
      interleavePos_interleavePos (List.mem_range.mp hj)]
  rw [standard_interleaveP, List.perm_ext_iff_of_nodup (List.nodup_range.map_on hinj) List.nodup_range]
  intro j
  rw [List.mem_map, List.mem_range]
  constructor
  case mp => rintro ⟨i, -, rfl⟩; exact interleavePos_lt i
  case mpr =>
    exact fun hj => ⟨interleavePos j, List.mem_range.mpr (interleavePos_lt j), interleavePos_interleavePos hj⟩

theorem getMsbD_interleave_standard (b : Body) {i : Nat} (hi : i < 368) :
    (interleave Codec.standard.interleaveP b).getMsbD (interleavePos i) = b.getMsbD i := by
  have h := getMsbD_interleave perm_standard_interleaveP b (i := i) (by simpa [standard_interleaveP] using hi)
  simpa only [standard_interleaveP, List.getElem_map, List.getElem_range] using h

theorem getMsbD_deinterleave_standard (b : Body) {i : Nat} (hi : i < 368) :
    (deinterleave Codec.standard.interleaveP b).getMsbD i = b.getMsbD (interleavePos i) := by
  have hlen : Codec.standard.interleaveP.length = 368 := by simp [standard_interleaveP]
  have h := getMsbD_deinterleave hlen b (i := i) (hlen ▸ hi)
  simpa only [standard_interleaveP, List.getElem_map, List.getElem_range] using h

/-- R252: position `j` takes the bit whose own position is `j`, which is bit `interleavePos j`. -/
theorem interleave_standard_eq_deinterleave (b : Body) :
    interleave Codec.standard.interleaveP b = deinterleave Codec.standard.interleaveP b := by
  refine BitVec.eq_of_getMsbD_eq fun j hj => ?_
  have hput := getMsbD_interleave_standard b (interleavePos_lt j)
  rw [interleavePos_interleavePos hj] at hput
  rw [hput, getMsbD_deinterleave_standard b hj]

/-! #### The scrambler -/

theorem byteAt_xor {n : Nat} (v w : BitVec n) (j : Nat) : byteAt (v ^^^ w) j = byteAt v j ^^^ byteAt w j := by
  unfold byteAt
  split
  case isTrue => exact BitVec.extractLsb'_xor
  case isFalse => rfl

/-- R256. -/
theorem byteAt_scramble (key b : Body) (j : Nat) : byteAt (scramble key b) j = byteAt b j ^^^ byteAt key j :=
  byteAt_xor b key j

theorem scramble_scramble (key b : Body) : scramble key (scramble key b) = b := by
  rw [scramble, scramble, BitVec.xor_assoc, BitVec.xor_self, BitVec.xor_zero]

/-! #### What each command answers -/

/-- R253. -/
theorem exec_ilv (s : State) :
    exec .ilv s =
      .next (putScrOut (interleave s.cfg.codec.interleaveP (seqOfBytes 368 (memRead spScrIn 0 46 s))) s) := rfl

/-- R254. -/
theorem exec_dilv (s : State) :
    exec .dilv s =
      .next (putScrOut (deinterleave s.cfg.codec.interleaveP (seqOfBytes 368 (memRead spScrIn 0 46 s))) s) := rfl

/-- R258. -/
theorem exec_scr (s : State) :
    exec .scr s =
      .next (putScrOut (scramble s.cfg.codec.scrambleKey (seqOfBytes 368 (memRead spScrIn 0 46 s))) s) := rfl

/-- Settles O10: the bits by their positions, the bytes of an exclusive or. -/
theorem interleaverAndScrambler : Obligations.InterleaverAndScrambler := by
  unfold Obligations.InterleaverAndScrambler
  exact ⟨fun b _ hi => getMsbD_interleave_standard b hi, by decide, fun key b j _ => byteAt_scramble key b j,
    scramble_scramble⟩

/-- Settles O11: the positions are a permutation, and an involution. -/
theorem deinterleaveInvertsInterleave : Obligations.DeinterleaveInvertsInterleave := by
  unfold Obligations.DeinterleaveInvertsInterleave
  exact fun b => ⟨deinterleave_interleave perm_standard_interleaveP b, interleave_standard_eq_deinterleave b,
    fun _ hi => getMsbD_deinterleave_standard b hi⟩

/-- Settles O12: each command is `putScrOut` of its transform, whose effect is known. -/
theorem bitTransformCommandsStore : Obligations.BitTransformCommandsStore := by
  unfold Obligations.BitTransformCommandsStore
  exact fun s => ⟨exec_effect_of_putScrOut (exec_ilv s), exec_effect_of_putScrOut (exec_dilv s),
    exec_effect_of_putScrOut (exec_scr s)⟩

end Sys2Proof.Machine
end

section
/-! ### The Golay code and its commands (42_golay.md)

The check bits are the remainder of a long division, followed one subtracted multiple at a time. Encoding is linear, so
the distance of two codewords is the weight of a third; that weight is 0 or at least 8, since the code is orthogonal to
itself and every weight is a multiple of 4. Hence at most one codeword lies within 3 bits of a word (R285). -/

-- One theorem after another, as in the tests: the kernel's evaluations side by side exceed the check's memory.
set_option Elab.async false

namespace Sys2Proof.Machine

/-! #### Counting ones -/

theorem countP_xor_add {α : Type} (f g : α → Bool) (l : List α) :
    l.countP (fun i => f i ^^ g i) + 2 * l.countP (fun i => f i && g i) = l.countP f + l.countP g := by
  induction l with
  | nil => rfl
  | cons a l ih =>
    simp only [List.countP_cons]
    cases f a <;> cases g a <;> simp <;> omega

/-- A position set in both words is lost from both by the exclusive or. -/
theorem popcount_xor_add {n : Nat} (x y : BitVec n) :
    popcount (x ^^^ y) + 2 * popcount (x &&& y) = popcount x + popcount y := by
  simp only [popcount, BitVec.getLsbD_xor, BitVec.getLsbD_and]
  exact countP_xor_add _ _ _

theorem popcount_and_le_left {n : Nat} (x y : BitVec n) : popcount (x &&& y) ≤ popcount x :=
  List.countP_mono_left fun i _ h => by
    rw [BitVec.getLsbD_and, Bool.and_eq_true] at h
    exact h.1

theorem popcount_and_twoPow {n : Nat} {v : BitVec n} {i : Nat} (hi : v.getLsbD i = true) :
    popcount (v &&& BitVec.twoPow n i) = 1 := by
  have hlt : i < n := BitVec.lt_of_getLsbD hi
  rw [BitVec.and_twoPow, if_pos hi, ← List.count_eq_one_of_mem List.nodup_range (List.mem_range.mpr hlt)]
  exact List.countP_congr fun j _ => by simp [BitVec.getLsbD_twoPow, hlt, @eq_comm _ i]

theorem popcount_append {m n : Nat} (x : BitVec m) (y : BitVec n) :
    popcount (x ++ y) = popcount x + popcount y := by
  have hlow : (List.range n).countP (fun i => (x ++ y).getLsbD i) = popcount y :=
    List.countP_congr fun i hi => by simp [BitVec.getLsbD_append, List.mem_range.mp hi]
  have hhigh : ((List.range m).map (n + ·)).countP (fun i => (x ++ y).getLsbD i) = popcount x := by
    rw [List.countP_map]
    exact List.countP_congr fun i _ => by simp [BitVec.getLsbD_append]
  have hrange : List.range (m + n) = List.range n ++ (List.range m).map (n + ·) := by
    rw [Nat.add_comm, List.range_add]
  rw [popcount, hrange, List.countP_append, hlow, hhigh, Nat.add_comm]

theorem and_xor_right {n : Nat} (x y z : BitVec n) : (x ^^^ y) &&& z = (x &&& z) ^^^ (y &&& z) :=
  BitVec.eq_of_toNat_eq Nat.and_xor_distrib_right

/-- The triangle inequality of the Hamming distance. -/
theorem popcount_xor_triangle {n : Nat} (x y w : BitVec n) :
    popcount (x ^^^ y) ≤ popcount (x ^^^ w) + popcount (y ^^^ w) := by
  have h := popcount_xor_add (x ^^^ w) (y ^^^ w)
  have hxy : (x ^^^ w) ^^^ (y ^^^ w) = x ^^^ y := by
    rw [BitVec.xor_comm y w, BitVec.xor_assoc, ← BitVec.xor_assoc w w y, BitVec.xor_self, BitVec.zero_xor]
  rw [hxy] at h
  omega

/-- The even-parity bit of a word with `k` ones. -/
def parityBit (k : Nat) : BitVec 1 := BitVec.ofNat 1 (k % 2)

@[simp] theorem popcount_parityBit (k : Nat) : popcount (parityBit k) = k % 2 := by
  obtain h | h := Nat.mod_two_eq_zero_or_one k <;> rw [parityBit, h] <;> rfl

theorem parityBit_popcount_xor {n : Nat} (x y : BitVec n) :
    parityBit (popcount (x ^^^ y)) = parityBit (popcount x) ^^^ parityBit (popcount y) := by
  have hsum : popcount (x ^^^ y) % 2 = (popcount x + popcount y) % 2 := by
    rw [← popcount_xor_add x y, Nat.add_mul_mod_self_left]
  rw [parityBit, hsum, parityBit, parityBit, Nat.add_mod]
  obtain hx | hx := Nat.mod_two_eq_zero_or_one (popcount x) <;>
    obtain hy | hy := Nat.mod_two_eq_zero_or_one (popcount y) <;> rw [hx, hy] <;> rfl

/-! #### Long division -/

/-- The last `n` steps of R281's long division, which clear bits `n + 10` down to 11. -/
def remainder (poly : BitVec 12) : Nat → BitVec 23 → BitVec 23
  | 0, r => r
  | n + 1, r => remainder poly n (if r.getLsbD (n + 11) then r ^^^ (poly.setWidth 23 <<< n) else r)

theorem golayCheck_eq_remainder (poly d : BitVec 12) :
    golayCheck poly d = (remainder poly 12 (d.setWidth 23 <<< 11)).setWidth 11 := rfl

theorem remainder_xor (poly : BitVec 12) (n : Nat) (a b : BitVec 23) :
    remainder poly n (a ^^^ b) = remainder poly n a ^^^ remainder poly n b := by
  induction n generalizing a b with
  | zero => rfl
  | succ n ih =>
    simp only [remainder, BitVec.getLsbD_xor, ← ih]
    congr 1
    cases a.getLsbD (n + 11) <;> cases b.getLsbD (n + 11) <;> simp [BitVec.xor_assoc]
    exact BitVec.xor_comm _ _

/-! #### Multiples of a polynomial -/

theorem polyMul_succ (p q n : Nat) :
    polyMul p q (n + 1) = if q.testBit n then polyMul p q n ^^^ (p <<< n) else polyMul p q n := by
  rw [polyMul, List.range_succ, List.foldl_append]
  rfl

/-- The first `n` terms read the low `n` bits of the factor. -/
theorem polyMul_congr {p q q' n : Nat} (h : ∀ k, k < n → q.testBit k = q'.testBit k) :
    polyMul p q n = polyMul p q' n := by
  induction n with
  | zero => rfl
  | succ n ih => rw [polyMul_succ, polyMul_succ, h n n.lt_succ_self, ih fun k hk => h k (hk.trans n.lt_succ_self)]

theorem polyMul_two_pow_add {p q n : Nat} (hq : q < 2 ^ n) :
    polyMul p (2 ^ n + q) (n + 1) = polyMul p q n ^^^ (p <<< n) := by
  have hlow : ∀ k, k < n → (2 ^ n + q).testBit k = q.testBit k := fun k hk => Nat.testBit_two_pow_add_gt hk q
  rw [polyMul_succ, Nat.testBit_two_pow_add_eq, Nat.testBit_lt_two_pow hq, polyMul_congr hlow]
  rfl

theorem polyMul_of_lt {p q n : Nat} (hq : q < 2 ^ n) : polyMul p q (n + 1) = polyMul p q n := by
  rw [polyMul_succ, Nat.testBit_lt_two_pow hq]
  rfl

theorem lt_two_pow_of_testBit_eq_false {x k : Nat} (hx : x < 2 ^ (k + 1)) (hbit : x.testBit k = false) : x < 2 ^ k :=
  Nat.lt_pow_two_of_testBit x fun i hi => by
    obtain rfl | hlt := Nat.eq_or_lt_of_le hi
    · exact hbit
    · exact Nat.testBit_lt_two_pow (hx.trans_le (Nat.pow_le_pow_right (by decide) hlt))

/-- A generator shifted by less than 12 places keeps all its bits. -/
theorem toNat_setWidth_shiftLeft (v : BitVec 12) {n : Nat} (hn : n < 12) :
    (v.setWidth 23 <<< n).toNat = v.toNat <<< n := by
  have hlt : v.toNat <<< n < 2 ^ 23 := by
    rw [Nat.shiftLeft_eq, show (23 : Nat) = 12 + 11 from rfl, Nat.pow_add]
    exact Nat.mul_lt_mul_of_lt_of_le v.isLt (Nat.pow_le_pow_right (by decide) (by omega)) (by decide)
  rw [BitVec.toNat_shiftLeft, BitVec.toNat_setWidth_of_le (by decide), Nat.mod_eq_of_lt hlt]

/-- For a generator of degree 11 a division step clears its bit. -/
theorem lt_of_divisionStep {poly : BitVec 12} (hdeg : poly.getLsbD 11 = true) {n : Nat} (hn : n < 12) {r : BitVec 23}
    (hr : r.toNat < 2 ^ (n + 12)) (hbit : r.getLsbD (n + 11) = true) :
    (r ^^^ (poly.setWidth 23 <<< n)).toNat < 2 ^ (n + 11) := by
  rw [BitVec.toNat_xor, toNat_setWidth_shiftLeft poly hn]
  refine lt_two_pow_of_testBit_eq_false (Nat.xor_lt_two_pow hr ?_) ?_
  · rw [Nat.shiftLeft_eq, Nat.add_assoc, Nat.pow_add, Nat.mul_comm]
    exact Nat.mul_lt_mul_of_pos_left poly.isLt (Nat.two_pow_pos n)
  · rw [Nat.testBit_xor, Nat.testBit_shiftLeft, Nat.add_sub_cancel_left, BitVec.testBit_toNat, BitVec.testBit_toNat,
      hbit, hdeg]
    simp

/-- The remainder has degree below 11, and what was subtracted is a multiple of the generator. -/
theorem remainder_spec {poly : BitVec 12} (hdeg : poly.getLsbD 11 = true) {n : Nat} (hn : n ≤ 12) {r : BitVec 23}
    (hr : r.toNat < 2 ^ (n + 11)) :
    (remainder poly n r).toNat < 2 ^ 11 ∧
      ∃ q, q < 2 ^ n ∧ r.toNat ^^^ (remainder poly n r).toNat = polyMul poly.toNat q n := by
  induction n generalizing r with
  | zero => exact ⟨by simpa [remainder] using hr, 0, by decide, Nat.xor_self _⟩
  | succ n ih =>
    have hr' : r.toNat < 2 ^ (n + 11 + 1) := by rwa [Nat.add_right_comm] at hr
    rw [remainder]
    split
    case isTrue hbit =>
      obtain ⟨hlt, q, hq, heq⟩ := ih (by omega) (lt_of_divisionStep hdeg hn hr' hbit)
      refine ⟨hlt, 2 ^ n + q, by rw [Nat.pow_succ]; omega, ?_⟩
      rw [polyMul_two_pow_add hq, ← heq, BitVec.toNat_xor, toNat_setWidth_shiftLeft poly hn, Nat.xor_right_comm,
        Nat.xor_assoc r.toNat, Nat.xor_self, Nat.xor_zero]
    case isFalse hbit =>
      have hclear : r.toNat.testBit (n + 11) = false := Bool.eq_false_iff.mpr hbit
      obtain ⟨hlt, q, hq, heq⟩ := ih (by omega) (lt_two_pow_of_testBit_eq_false hr' hclear)
      exact ⟨hlt, q, by rw [Nat.pow_succ]; omega, by rw [polyMul_of_lt hq, heq]⟩

/-- R281 for every generator of degree 11. -/
theorem golayCheck_is_remainder {poly : BitVec 12} (hdeg : poly.getLsbD 11 = true) (d : BitVec 12) :
    ∃ q, q < 2 ^ 12 ∧ (d.toNat <<< 11) ^^^ (golayCheck poly d).toNat = polyMul poly.toNat q 12 := by
  have hd := toNat_setWidth_shiftLeft d (n := 11) (by decide)
  have hr : (d.setWidth 23 <<< 11).toNat < 2 ^ (12 + 11) := BitVec.isLt _
  obtain ⟨hlt, q, hq, heq⟩ := remainder_spec hdeg (by decide) hr
  refine ⟨q, hq, ?_⟩
  rw [golayCheck_eq_remainder, BitVec.toNat_setWidth, Nat.mod_eq_of_lt hlt, ← hd, heq]

/-! #### The codeword -/

/-- R280: the data, the check bits and the parity bit. -/
theorem golayEncode_eq_append (poly d : BitVec 12) :
    golayEncode poly d = d ++ golayCheck poly d ++ parityBit (popcount (d ++ golayCheck poly d)) := by
  have hjoin {m n : Nat} (x : BitVec m) (y : BitVec n) :
      x.setWidth (m + n) <<< n ||| y.setWidth (m + n) = x ++ y := by
    rw [← BitVec.setWidth_append_eq_shiftLeft_setWidth_or, BitVec.setWidth_eq]
  have hparity (k : Nat) : (parityBit k).setWidth 24 = BitVec.ofNat 24 (k % 2) := by
    obtain h | h := Nat.mod_two_eq_zero_or_one k <;> rw [parityBit, h] <;> rfl
  rw [golayEncode, hjoin d (golayCheck poly d), ← hjoin _ (parityBit _), hparity]

theorem golayCheck_xor (poly d e : BitVec 12) :
    golayCheck poly (d ^^^ e) = golayCheck poly d ^^^ golayCheck poly e := by
  simp only [golayCheck_eq_remainder, BitVec.setWidth_xor, BitVec.shiftLeft_xor_distrib, remainder_xor]

/-- R283: encoding is linear. -/
theorem golayEncode_xor (poly d e : BitVec 12) :
    golayEncode poly (d ^^^ e) = golayEncode poly d ^^^ golayEncode poly e := by
  simp only [golayEncode_eq_append, golayCheck_xor, ← BitVec.xor_append, parityBit_popcount_xor]

theorem golayEncode_data (poly d : BitVec 12) : (golayEncode poly d).extractLsb' 12 12 = d := by
  rw [golayEncode_eq_append, BitVec.extractLsb'_append_eq_of_le (by decide)]
  exact BitVec.extractLsb'_append_eq_left

theorem golayEncode_check (poly d : BitVec 12) : (golayEncode poly d).extractLsb' 1 11 = golayCheck poly d := by
  rw [golayEncode_eq_append, BitVec.extractLsb'_append_eq_of_le (by decide)]
  exact BitVec.extractLsb'_append_eq_right

/-- The check bits and the parity bit. -/
def golayLow (poly d : BitVec 12) : BitVec 12 := (golayEncode poly d).extractLsb' 0 12

theorem golayEncode_eq_data_append_low (poly d : BitVec 12) : golayEncode poly d = d ++ golayLow poly d := by
  have hparts := BitVec.extractLsb'_append_extractLsb' (w := 12) (len := 12) (x := golayEncode poly d)
  rw [golayEncode_data] at hparts
  exact hparts.symm

theorem popcount_golayEncode (poly d : BitVec 12) :
    popcount (golayEncode poly d) = popcount d + popcount (golayLow poly d) := by
  rw [golayEncode_eq_data_append_low, popcount_append]

theorem popcount_golayEncode_and (poly d e : BitVec 12) :
    popcount (golayEncode poly d &&& golayEncode poly e) =
      popcount (d &&& e) + popcount (golayLow poly d &&& golayLow poly e) := by
  rw [golayEncode_eq_data_append_low, golayEncode_eq_data_append_low, ← popcount_append]
  exact congrArg popcount BitVec.and_append

/-- R282. -/
theorem popcount_golayEncode_even (poly d : BitVec 12) : popcount (golayEncode poly d) % 2 = 0 := by
  rw [golayEncode_eq_append, popcount_append, popcount_parityBit]
  omega

theorem bytesOfSeq_24 (w : BitVec 24) :
    bytesOfSeq w = [w.extractLsb' 16 8, w.extractLsb' 8 8, w.extractLsb' 0 8] := by
  have hpad : w.setWidth (8 * 3) <<< (8 * 3 - 24) = w := by
    rw [Nat.sub_self, BitVec.shiftLeft_zero, BitVec.setWidth_eq]
  change (List.range 3).map (fun j => (w.setWidth (8 * 3) <<< (8 * 3 - 24)).extractLsb' (8 * (3 - 1 - j)) 8) = _
  rw [hpad]
  rfl

/-! #### The default code's least weight (R285) -/

/-- A statement about all words follows from the steps that flip one bit. -/
theorem bitVec_induction_on_flips {n : Nat} {P : BitVec n → Prop} (zero : P 0#n)
    (flip : ∀ (v : BitVec n) (i : Fin n), P v → P (v ^^^ BitVec.twoPow n i)) (v : BitVec n) : P v := by
  have below (k : Nat) (hk : k ≤ n) : ∀ v : BitVec n, v.toNat < 2 ^ k → P v := by
    induction k with
    | zero =>
      intro v hv
      rwa [BitVec.eq_of_toNat_eq (y := 0#n) (Nat.lt_one_iff.mp hv)]
    | succ k ih =>
      intro v hv
      cases hbit : v.toNat.testBit k with
      | false => exact ih (by omega) v (lt_two_pow_of_testBit_eq_false hv hbit)
      | true =>
        have htwo : (BitVec.twoPow n k).toNat = 2 ^ k := BitVec.toNat_twoPow_of_lt hk
        have hlt : (v ^^^ BitVec.twoPow n k).toNat < 2 ^ k := by
          rw [BitVec.toNat_xor, htwo]
          refine lt_two_pow_of_testBit_eq_false (Nat.xor_lt_two_pow hv (Nat.pow_lt_pow_succ (by decide))) ?_
          rw [Nat.testBit_xor, hbit, Nat.testBit_two_pow_self, Bool.xor_self]
        simpa [BitVec.xor_assoc] using flip _ ⟨k, hk⟩ (ih (by omega) _ hlt)
  exact below n le_rfl v v.isLt

/-- The codeword of one data bit, a row of the generator matrix. -/
def golayRow (i : Fin 12) : BitVec 24 := golayEncode Codec.standard.golayPoly (BitVec.twoPow 12 i)

theorem golayEncode_flip (d : BitVec 12) (i : Fin 12) :
    golayEncode Codec.standard.golayPoly (d ^^^ BitVec.twoPow 12 i) =
      golayEncode Codec.standard.golayPoly d ^^^ golayRow i := golayEncode_xor _ _ _

/-- Any two rows, and each row with itself, meet in an even number of places. -/
theorem golayRow_orthogonal : ∀ i j : Fin 12, popcount (golayRow i &&& golayRow j) % 2 = 0 := by decide +kernel

theorem golayRow_weight : ∀ i : Fin 12, popcount (golayRow i) % 4 = 0 := by decide +kernel

/-- Every codeword meets every row in an even number of places. -/
theorem golayEncode_orthogonal (d : BitVec 12) (j : Fin 12) :
    popcount (golayEncode Codec.standard.golayPoly d &&& golayRow j) % 2 = 0 := by
  induction d using bitVec_induction_on_flips with
  | zero => revert j; decide +kernel
  | flip d i ih =>
    have hsum := popcount_xor_add (golayEncode Codec.standard.golayPoly d &&& golayRow j) (golayRow i &&& golayRow j)
    have hrows := golayRow_orthogonal i j
    rw [golayEncode_flip, and_xor_right]
    omega

theorem popcount_golayEncode_mod_four (d : BitVec 12) :
    popcount (golayEncode Codec.standard.golayPoly d) % 4 = 0 := by
  induction d using bitVec_induction_on_flips with
  | zero => decide +kernel
  | flip d i ih =>
    have hsum := popcount_xor_add (golayEncode Codec.standard.golayPoly d) (golayRow i)
    have hrow := golayRow_weight i
    have hmeet := golayEncode_orthogonal d i
    rw [golayEncode_flip]
    omega

theorem golayEncode_weight_of_few_data_bits : (dataErrors.all fun e =>
    decide (e = 0#12 ∨ 8 ≤ popcount (golayEncode Codec.standard.golayPoly e))) = true := by
  decide +kernel

/-- Some check or parity bit is set: with none, the codeword would meet the row of each of its data bits in that bit
alone. -/
theorem popcount_golayLow_pos {d : BitVec 12} (hd : d ≠ 0#12) : 0 < popcount (golayLow Codec.standard.golayPoly d) := by
  obtain ⟨i, hbit⟩ : ∃ i : Fin 12, d.getLsbD i = true := by
    by_contra hnone
    exact hd (BitVec.eq_of_getLsbD_eq fun i hi => by simpa using fun h => hnone ⟨⟨i, hi⟩, h⟩)
  have horth := golayEncode_orthogonal d i
  have hlow := popcount_and_le_left (golayLow Codec.standard.golayPoly d)
    (golayLow Codec.standard.golayPoly (BitVec.twoPow 12 i))
  rw [golayRow, popcount_golayEncode_and, popcount_and_twoPow hbit] at horth
  omega

/-- R285: two codewords differ in at least 8 places. -/
theorem golayEncode_weight {d : BitVec 12} (hd : d ≠ 0#12) :
    8 ≤ popcount (golayEncode Codec.standard.golayPoly d) := by
  by_cases hfew : popcount d ≤ 3
  case pos =>
    have h := List.all_eq_true.mp golayEncode_weight_of_few_data_bits d ((mem_dataErrors d).mpr hfew)
    exact (of_decide_eq_true h).resolve_left hd
  case neg =>
    have hparts := popcount_golayEncode Codec.standard.golayPoly d
    have hlow := popcount_golayLow_pos hd
    have hfour := popcount_golayEncode_mod_four d
    omega

/-- At most one codeword lies within 3 bits of a word. -/
theorem golay_codeword_unique {w : BitVec 24} {d e : BitVec 12}
    (hd : popcount (golayEncode Codec.standard.golayPoly d ^^^ w) ≤ 3)
    (he : popcount (golayEncode Codec.standard.golayPoly e ^^^ w) ≤ 3) : d = e := by
  by_contra hne
  have hweight := golayEncode_weight (d := d ^^^ e) (by rwa [ne_eq, BitVec.xor_eq_zero_iff])
  have htriangle := popcount_xor_triangle (golayEncode Codec.standard.golayPoly d)
    (golayEncode Codec.standard.golayPoly e) w
  rw [golayEncode_xor] at hweight
  omega

/-! #### The decoder -/

/-- The data bits of a codeword are no farther from the received ones than the codeword from the word. -/
theorem popcount_data_xor_le (poly d : BitVec 12) (w : BitVec 24) :
    popcount (w.extractLsb' 12 12 ^^^ d) ≤ popcount (golayEncode poly d ^^^ w) := by
  have h := popcount_high_le (golayEncode poly d ^^^ w)
  rwa [BitVec.extractLsb'_xor, golayEncode_data, BitVec.xor_comm] at h

/-- The patterns tried find a codeword within distance 3 when there is one, for every generator. -/
theorem golayDecode_ok_iff (poly : BitVec 12) (w : BitVec 24) :
    (golayDecode poly w).2 = true ↔ ∃ d, popcount (golayEncode poly d ^^^ w) ≤ 3 := by
  constructor
  case mp =>
    intro hok
    obtain ⟨d, -, hd⟩ | hfail := golayDecode_cases poly w
    · exact ⟨d, hd⟩
    · rw [hfail] at hok
      cases hok
  case mpr =>
    rintro ⟨d, hd⟩
    have htried := (mem_dataErrors _).mpr ((popcount_data_xor_le poly d w).trans hd)
    unfold golayDecode
    dsimp only
    split
    case h_1 => rfl
    case h_2 hnone =>
      have hmiss := List.find?_eq_none.mp hnone _ htried
      rw [← BitVec.xor_assoc, BitVec.xor_self, BitVec.zero_xor] at hmiss
      exact absurd (decide_eq_true hd) hmiss

theorem golayDecode_of_within {w : BitVec 24} {d : BitVec 12}
    (hd : popcount (golayEncode Codec.standard.golayPoly d ^^^ w) ≤ 3) :
    golayDecode Codec.standard.golayPoly w = (d, true) := by
  have hok := (golayDecode_ok_iff _ w).mpr ⟨d, hd⟩
  obtain ⟨e, hans, he⟩ | hfail := golayDecode_cases Codec.standard.golayPoly w
  · rw [hans, golay_codeword_unique hd he]
  · rw [hfail] at hok
    cases hok

theorem golayDecode_of_beyond {poly : BitVec 12} {w : BitVec 24}
    (hfar : ∀ d : BitVec 12, 3 < popcount (golayEncode poly d ^^^ w)) :
    golayDecode poly w = (w.extractLsb' 12 12, false) := by
  obtain ⟨d, -, hd⟩ | hfail := golayDecode_cases poly w
  · exact absurd hd (Nat.not_le_of_lt (hfar d))
  · exact hfail

/-! #### What each command answers -/

/-- R284. -/
theorem exec_genc (d : BitVec 12) (s : State) :
    exec (.genc d) s = .next (putRes ((golayEncode s.cfg.codec.golayPoly d).setWidth 32) 0#32 s) := rfl

/-- R288. -/
theorem exec_gdec (w : BitVec 24) (s : State) :
    exec (.gdec w) s =
      .next (putRes ((golayDecode s.cfg.codec.golayPoly w).1.setWidth 32)
        ((BitVec.ofBool (golayDecode s.cfg.codec.golayPoly w).2).setWidth 32) s) := rfl

theorem setWidth_ofBool (b : Bool) : (BitVec.ofBool b).setWidth 32 = if b = true then 1#32 else 0#32 := by
  cases b <;> rfl

/-- Settles O13: the parts are those of the appended codeword, and the check bits the remainder of a long division
by a generator of degree 11. -/
theorem golayCodewordAndCheckBits : Obligations.GolayCodewordAndCheckBits := by
  unfold Obligations.GolayCodewordAndCheckBits
  exact ⟨fun poly d => ⟨golayEncode_data poly d, golayEncode_check poly d, popcount_golayEncode_even poly d,
    bytesOfSeq_24 _⟩, rfl, golayCheck_is_remainder (poly := 0xC75#12) (by decide)⟩

/-- Settles O14: the patterns tried miss no codeword within distance 3, and the least weight 8 makes it unique. -/
theorem golayDecoderIsBoundedDistance : Obligations.GolayDecoderIsBoundedDistance := by
  unfold Obligations.GolayDecoderIsBoundedDistance
  exact fun w => ⟨fun _ hd => golayDecode_of_within hd, golayDecode_of_beyond⟩

/-- Settles O15: each command is a `putRes` of its results; the example to decode lies one bit from its codeword. -/
theorem golayCommands : Obligations.GolayCommands := by
  unfold Obligations.GolayCommands
  refine ⟨fun d s => exec_genc d s, fun w s => ?_, by decide +kernel, by decide +kernel, by decide +kernel,
    golayDecode_of_within (by decide +kernel)⟩
  rw [exec_gdec, setWidth_ofBool]
  rfl

end Sys2Proof.Machine
end

section
/-! ### The convolutional encoder, puncturing and the Viterbi decoder (43_convolutional.md)

A path of the trellis is the list of its inputs; its metric is the distance of the symbols from its coded bits. The
decoder's last metrics are metrics of the paths it traces back, and no path has a smaller one. -/

namespace Sys2Proof.Machine

-- One theorem after another, as in the tests, so that the check stays within its memory.
set_option Elab.async false

/-! #### The encoder (R311 to R313) -/

/-- The encoder's state after the inputs `v` (R312). -/
def convState (σ : BitVec 4) (v : List Bool) : BitVec 4 := v.foldl convNext σ

@[simp] theorem convState_nil (σ : BitVec 4) : convState σ [] = σ := rfl

@[simp] theorem convState_cons (σ : BitVec 4) (u : Bool) (v : List Bool) :
    convState σ (u :: v) = convState (convNext σ u) v := rfl

@[simp] theorem convState_append (σ : BitVec 4) (v w : List Bool) :
    convState σ (v ++ w) = convState (convState σ v) w := List.foldl_append

/-- R312: the newest input comes into bit 3, the others move down by one. -/
theorem getLsbD_convNext (σ : BitVec 4) (u : Bool) {i : Nat} (hi : i < 4) :
    (convNext σ u).getLsbD i = if i = 3 then u else σ.getLsbD (i + 1) := by
  have hbits : ∀ (σ : BitVec 4) (u : Bool) (i : Fin 4),
      (convNext σ u).getLsbD i = if i.val = 3 then u else σ.getLsbD (i.val + 1) := by decide
  exact hbits σ u ⟨i, hi⟩

@[simp] theorem length_convRun (c : Codec) (σ : BitVec 4) (v : List Bool) :
    (convRun c σ v).length = 2 * v.length := by
  induction v generalizing σ with
  | nil => rfl
  | cons u v ih => simp only [convRun, List.length_cons, ih]; omega

@[simp] theorem length_convEncode (c : Codec) (u : List Bool) :
    (convEncode c u).length = 2 * (u.length + 4) := by
  rw [convEncode, length_convRun, List.length_append]
  rfl

/-- The two coded bits of step `k` are those of the state after the first `k` inputs. -/
theorem getD_convRun (c : Codec) (σ : BitVec 4) (v : List Bool) {k : Nat} (hk : k < v.length) :
    (convRun c σ v).getD (2 * k) false = convOut c.convG1 (convState σ (v.take k)) (v.getD k false) ∧
      (convRun c σ v).getD (2 * k + 1) false = convOut c.convG2 (convState σ (v.take k)) (v.getD k false) := by
  induction v generalizing σ k with
  | nil => cases hk
  | cons u v ih =>
    cases k with
    | zero => exact ⟨rfl, rfl⟩
    | succ k => exact ih (convNext σ u) (Nat.lt_of_succ_lt_succ hk)

theorem inputAt_natCast (u : List Bool) (k : Nat) : inputAt u k = u.getD k false := by simp [inputAt]

theorem inputAt_of_neg {u : List Bool} {k : Int} (hk : k < 0) : inputAt u k = false := by
  rw [inputAt, if_neg (by omega)]

/-- The tail bits are the zeros that `inputAt` reads after the sequence. -/
theorem inputAt_append_replicate_false (u : List Bool) (m : Nat) (k : Int) :
    inputAt (u ++ List.replicate m false) k = inputAt u k := by
  rcases Int.lt_or_le k 0 with hneg | hpos
  · rw [inputAt_of_neg hneg, inputAt_of_neg hneg]
  · lift k to Nat using hpos
    rw [inputAt_natCast, inputAt_natCast]
    rcases Nat.lt_or_ge k u.length with hk | hk
    · exact List.getD_append _ _ _ _ hk
    · rw [List.getD_append_right _ _ _ _ hk, List.getD_eq_getElem?_getD,
        List.getElem?_getD_replicate_default_eq, List.getD_eq_default _ _ hk]

/-- R312: bit `i` of the state after `k` inputs is the input `4 - i` steps back. -/
theorem getLsbD_convState_take {v : List Bool} {k : Nat} (hk : k ≤ v.length) {i : Nat} (hi : i < 4) :
    (convState 0#4 (v.take k)).getLsbD i = inputAt v (k - 4 + i) := by
  induction k generalizing i with
  | zero => rw [List.take_zero, convState_nil, BitVec.getLsbD_zero, inputAt_of_neg (by omega)]
  | succ k ih =>
    rw [List.take_succ_eq_append_getElem hk, convState_append, convState_cons, convState_nil, getLsbD_convNext _ _ hi]
    split
    · next h3 =>
      have hnow : ((k + 1 : Nat) : Int) - 4 + i = (k : Nat) := by omega
      rw [hnow, inputAt_natCast, List.getD_eq_getElem]
    · next h3 =>
      rw [ih (Nat.le_of_lt hk) (by omega)]
      congr 1
      omega

/-- R313: one coded bit as the generator's taps on the last five inputs. -/
theorem convOut_convState_take (g : BitVec 5) {v : List Bool} {k : Nat} (hk : k ≤ v.length) :
    convOut g (convState 0#4 (v.take k)) (v.getD k false) =
      ((g.getLsbD 0 && inputAt v k) ^^ (g.getLsbD 1 && inputAt v (k - 1)) ^^ (g.getLsbD 2 && inputAt v (k - 2)) ^^
        (g.getLsbD 3 && inputAt v (k - 3)) ^^ (g.getLsbD 4 && inputAt v (k - 4))) := by
  have hback : ∀ i : Nat, i < 4 → ∀ d : Int, d = 4 - i →
      (convState 0#4 (v.take k)).getLsbD i = inputAt v (k - d) := by
    rintro i hi d rfl
    rw [getLsbD_convState_take hk hi]
    congr 1
    omega
  rw [convOut, hback 3 (by decide) 1 rfl, hback 2 (by decide) 2 rfl, hback 1 (by decide) 3 rfl,
    hback 0 (by decide) 4 rfl, inputAt_natCast]

/-- Settles O16: the state holds the last four inputs, so a coded bit is the sum of its generator's taps. -/
theorem convolutionalCodeTaps : Obligations.ConvolutionalCodeTaps := by
  unfold Obligations.ConvolutionalCodeTaps
  refine fun u => ⟨length_convEncode _ u, fun k hk => ?_⟩
  have hlen : k < (u ++ List.replicate 4 false).length := by rwa [List.length_append]
  obtain ⟨hG1, hG2⟩ := getD_convRun Codec.standard 0#4 _ hlen
  rw [convOut_convState_take _ (Nat.le_of_lt hlen)] at hG1 hG2
  simp only [inputAt_append_replicate_false] at hG1 hG2
  refine ⟨hG1.trans ?_, hG2.trans ?_⟩
  · simp [Codec.standard]
  · simp [Codec.standard]

/-! #### Puncturing (R316) -/

theorem punctureFrom_eq_filter_map (pat c : List Bool) (j : Nat) :
    punctureFrom pat j c =
      ((List.range c.length).filter fun i => pat.getD ((j + i) % pat.length) false).map fun i => c.getD i false := by
  induction c generalizing j with
  | nil => rfl
  | cons b c ih =>
    have hshift : ∀ i, j + 1 + i = j + (i + 1) := fun i => by omega
    rw [List.length_cons, List.range_succ_eq_map, List.filter_cons, List.filter_map, punctureFrom, ih (j + 1)]
    simp only [hshift, Nat.add_zero]
    split
    · rw [List.map_cons, List.map_map]; rfl
    · rw [List.map_map]; rfl

theorem puncture_eq_filter_map (pat c : List Bool) :
    puncture pat c =
      ((List.range c.length).filter fun j => pat.getD (j % pat.length) false).map fun j => c.getD j false := by
  rw [puncture, punctureFrom_eq_filter_map]
  simp only [Nat.zero_add]

theorem length_puncture (pat c : List Bool) : (puncture pat c).length = keptBits pat c.length := by
  rw [puncture_eq_filter_map, List.length_map, keptBits, List.countP_eq_length_filter]

/-- R310 for the LSF. -/
theorem length_puncture_lsf {u : List Bool} (hu : u.length = 240) :
    (puncture Codec.standard.punctP1 (convEncode Codec.standard u)).length = 368 := by
  rw [length_puncture, length_convEncode, hu]
  decide +kernel

/-- R310 for a stream block. -/
theorem length_puncture_stream {u : List Bool} (hu : u.length = 144) :
    (puncture Codec.standard.punctP2 (convEncode Codec.standard u)).length = 272 := by
  rw [length_puncture, length_convEncode, hu]
  decide +kernel

/-- Settles O17: by induction on the sequence, the index in the pattern following along. -/
theorem punctureKeepsPatternBits : Obligations.PunctureKeepsPatternBits := by
  unfold Obligations.PunctureKeepsPatternBits
  exact ⟨puncture_eq_filter_map, fun _ => length_puncture_lsf, fun _ => length_puncture_stream⟩

/-! #### The metric of a path (R322) -/

/-- The distance of full-rate symbols from coded bits. -/
def symbolCost (smax : Nat) (z : List Nat) (bits : List Bool) : Nat :=
  ((z.zip bits).map fun zb => absDiff zb.1 (smax * zb.2.toNat)).sum

/-- The metric of the path from `σ` with the inputs `v`. -/
def pathMetric (c : Codec) (σ : BitVec 4) (z : List Nat) (v : List Bool) : Nat :=
  symbolCost c.smax z (convRun c σ v)

@[simp] theorem symbolCost_nil (smax : Nat) (z : List Nat) : symbolCost smax z [] = 0 := by simp [symbolCost]

@[simp] theorem symbolCost_cons (smax z0 : Nat) (z : List Nat) (b : Bool) (bits : List Bool) :
    symbolCost smax (z0 :: z) (b :: bits) = absDiff z0 (smax * b.toNat) + symbolCost smax z bits := by
  simp [symbolCost]

@[simp] theorem pathMetric_nil (c : Codec) (σ : BitVec 4) (z : List Nat) : pathMetric c σ z [] = 0 :=
  symbolCost_nil _ _

/-- A path's metric is that of its first branch and that of the rest. -/
theorem pathMetric_cons (c : Codec) (σ : BitVec 4) (z0 z1 : Nat) (z : List Nat) (u : Bool) (v : List Bool) :
    pathMetric c σ (z0 :: z1 :: z) (u :: v) = branchMetric c z0 z1 σ u + pathMetric c (convNext σ u) z v := by
  simp only [pathMetric, convRun, symbolCost_cons, branchMetric, Nat.add_assoc]

/-! #### One step of the trellis (R324) -/

theorem convNext_predecessor (t : BitVec 4) (j : Bool) : convNext (predecessor t j) (t.getLsbD 3) = t := by
  revert t j; decide

theorem predecessor_convNext (σ : BitVec 4) (u : Bool) : predecessor (convNext σ u) (σ.getLsbD 0) = σ := by
  revert σ u; decide

/-- The metric of the path into `t` by its predecessor with low bit `j`. -/
def candidate (c : Codec) (pm : List (Option Nat)) (z0 z1 : Nat) (t : BitVec 4) (j : Bool) : Option Nat :=
  addMetric (pm.getD (predecessor t j).toNat none) (branchMetric c z0 z1 (predecessor t j) (t.getLsbD 3))

theorem acsState_eq (c : Codec) (pm : List (Option Nat)) (z0 z1 : Nat) (t : BitVec 4) :
    acsState c pm z0 z1 t =
      if secondWins (candidate c pm z0 z1 t false) (candidate c pm z0 z1 t true) then
        (candidate c pm z0 z1 t true, true)
      else (candidate c pm z0 z1 t false, false) := rfl

/-- The metric kept is that of the predecessor decided for. -/
theorem acsState_metric (c : Codec) (pm : List (Option Nat)) (z0 z1 : Nat) (t : BitVec 4) :
    (acsState c pm z0 z1 t).1 = candidate c pm z0 z1 t (acsState c pm z0 z1 t).2 := by
  rw [acsState_eq]
  split <;> rfl

/-- The winner of a comparison is a number no larger than either metric; `none` loses to every number. -/
theorem winner_le (m0 m1 : Option Nat) {m : Nat} (h : m0 = some m ∨ m1 = some m) :
    ∃ m', (if secondWins m0 m1 then m1 else m0) = some m' ∧ m' ≤ m := by
  rcases m0 with - | m0 <;> rcases m1 with - | m1
  case none.none => simp at h
  case none.some => exact ⟨m1, rfl, by simp at h; omega⟩
  case some.none => exact ⟨m0, rfl, by simp at h; omega⟩
  case some.some =>
    simp only [Option.some.injEq] at h
    by_cases hlt : m1 < m0
    · exact ⟨m1, by simp [secondWins, hlt], by omega⟩
    · exact ⟨m0, by simp [secondWins, hlt], by omega⟩

/-- No candidate has a smaller metric than the one kept. -/
theorem acsState_le {c : Codec} {pm : List (Option Nat)} {z0 z1 : Nat} {t : BitVec 4} {j : Bool} {m : Nat}
    (hj : candidate c pm z0 z1 t j = some m) : ∃ m', (acsState c pm z0 z1 t).1 = some m' ∧ m' ≤ m := by
  have hfst : (acsState c pm z0 z1 t).1 =
      if secondWins (candidate c pm z0 z1 t false) (candidate c pm z0 z1 t true) then candidate c pm z0 z1 t true
      else candidate c pm z0 z1 t false := by
    rw [acsState_eq]
    split <;> rfl
  rw [hfst]
  refine winner_le _ _ ?_
  cases j
  · exact .inl hj
  · exact .inr hj

/-- A row over the states holds at place `t` what is computed for `t`. -/
theorem getD_map_trellisStates {α : Type} (f : BitVec 4 → α) (t : BitVec 4) (d : α) :
    (trellisStates.map f).getD t.toNat d = f t := by
  simp [trellisStates, List.getD_eq_getElem?_getD, t.isLt]

/-- One step of `acsRun`: the next metrics and the row of decisions. -/
theorem acsRun_cons (c : Codec) (pm : List (Option Nat)) (rows : List (List Bool)) (z0 z1 : Nat) (z : List Nat) :
    acsRun c pm rows (z0 :: z1 :: z) =
      acsRun c (trellisStates.map fun t => (acsState c pm z0 z1 t).1)
        ((trellisStates.map fun t => (acsState c pm z0 z1 t).2) :: rows) z := by
  rw [acsRun, List.map_map, List.map_map]
  rfl

/-! #### No path beats the decoder's metrics -/

/-- A path from a reachable state leads to a reachable state, with a metric that is no larger than the path's. -/
theorem acsRun_metric_le (c : Codec) {pm : List (Option Nat)} (rows : List (List Bool)) {z : List Nat}
    {v : List Bool} {σ : BitVec 4} {m : Nat} (hlen : z.length = 2 * v.length) (hm : pm.getD σ.toNat none = some m) :
    ∃ m', (acsRun c pm rows z).1.getD (convState σ v).toNat none = some m' ∧ m' ≤ m + pathMetric c σ z v := by
  induction v generalizing pm rows z σ m with
  | nil =>
    obtain rfl := List.eq_nil_of_length_eq_zero hlen
    exact ⟨m, hm, Nat.le_add_right _ _⟩
  | cons u v ih =>
    obtain ⟨z0, z, rfl⟩ := List.exists_cons_of_length_eq_add_one hlen
    obtain ⟨z1, z, rfl⟩ := List.exists_cons_of_length_eq_add_one (Nat.succ.inj hlen)
    have hcand : candidate c pm z0 z1 (convNext σ u) (σ.getLsbD 0) = some (m + branchMetric c z0 z1 σ u) := by
      rw [candidate, predecessor_convNext, hm, getLsbD_convNext _ _ (by decide)]
      rfl
    obtain ⟨m1, hm1, hle1⟩ := acsState_le hcand
    have hlen' : z.length = 2 * v.length := by
      simp only [List.length_cons] at hlen
      omega
    rw [← getD_map_trellisStates (fun t => (acsState c pm z0 z1 t).1) (convNext σ u) none] at hm1
    obtain ⟨m', hm', hle⟩ := ih _ hlen' hm1
    refine ⟨m', ?_, ?_⟩
    · rw [acsRun_cons, convState_cons]
      exact hm'
    · rw [pathMetric_cons]
      omega

/-! #### The traced path has the decoder's metric -/

/-- From a state reached with metric `m'`, the traceback reads off the inputs of a path that leads there from a
state reachable before, and `m'` is the metric along it. -/
theorem acsRun_traceback (c : Codec) (pm : List (Option Nat)) (rows : List (List Bool)) (z : List Nat)
    {t : BitVec 4} {m' : Nat} (hm' : (acsRun c pm rows z).1.getD t.toNat none = some m') :
    ∃ σ m v, pm.getD σ.toNat none = some m ∧ v.length = z.length / 2 ∧ convState σ v = t ∧
      m' = m + pathMetric c σ z v ∧
      ∀ path, traceback t (acsRun c pm rows z).2 path = traceback σ rows (v ++ path) := by
  induction pm, rows, z using acsRun.induct c with
  | case2 z pm rows hshort =>
    have hrun : acsRun c pm rows z = (pm, rows) := by rw [acsRun]; exact hshort
    have hlen : z.length / 2 = 0 := by
      match z, hshort with
      | [], _ => rfl
      | [_], _ => simp
      | _ :: _ :: _, hshort => exact (hshort _ _ _ rfl).elim
    rw [hrun] at hm' ⊢
    exact ⟨t, m', [], hm', hlen.symm, rfl, by simp, fun _ => rfl⟩
  | case1 pm rows z0 z1 z row ih =>
    obtain ⟨σ, m, v, hm, hlen, hend, hmetric, hpath⟩ := ih hm'
    simp only [row, List.map_map] at hm
    rw [Function.comp_def, getD_map_trellisStates, acsState_metric, candidate, addMetric, Option.map_eq_some_iff] at hm
    obtain ⟨m0, hm0, rfl⟩ := hm
    refine ⟨_, m0, σ.getLsbD 3 :: v, hm0, ?_, ?_, ?_, fun path => ?_⟩
    · simp only [List.length_cons, hlen]
      omega
    · rw [convState_cons, convNext_predecessor, hend]
    · rw [pathMetric_cons, convNext_predecessor, hmetric]
      omega
    · rw [acsRun, hpath, traceback]
      simp only [row, List.map_map, Function.comp_def, getD_map_trellisStates, List.cons_append]

/-- R323: only state 0 is reachable at the start, with metric 0. -/
theorem startMetrics_eq_some {σ : BitVec 4} {m : Nat} (h : startMetrics.getD σ.toNat none = some m) :
    σ = 0#4 ∧ m = 0 := by
  have hother : ∀ σ : BitVec 4, σ ≠ 0#4 → startMetrics.getD σ.toNat none = none := by decide
  by_cases hσ : σ = 0#4
  · subst hσ
    exact ⟨rfl, (Option.some.inj h).symm⟩
  · rw [hother σ hσ] at h
    cases h

/-! #### The path back to state 0 (R325) -/

/-- R313: the tail takes every state to 0. -/
theorem convState_tail (σ : BitVec 4) : convState σ [false, false, false, false] = 0#4 := by
  revert σ; decide

/-- And a path that ends in state 0 has the tail for its last four inputs. -/
theorem eq_take_append_tail {v : List Bool} {n : Nat} (hlen : v.length = n + 4) (hend : convState 0#4 v = 0#4) :
    v = v.take n ++ [false, false, false, false] := by
  have htail : ∀ (σ : BitVec 4) (a b c d : Bool), convState σ [a, b, c, d] = 0#4 →
      [a, b, c, d] = [false, false, false, false] := by decide
  have hdrop : (v.drop n).length = 4 := by rw [List.length_drop]; omega
  obtain ⟨a, b, c, d, habcd⟩ := List.length_eq_four.mp hdrop
  rw [← List.take_append_drop n v, convState_append, habcd] at hend
  rw [← htail _ a b c d hend, ← habcd, List.take_append_drop]

/-- The decoder's path `û` and its metric: `û` is a data sequence, the last metric of state 0 is the metric of its
encoding, and no other data sequence has a smaller one. -/
theorem acsRun_state0 (c : Codec) {z : List Nat} {n : Nat} (hz : z.length = 2 * (n + 4)) :
    ∃ u, (traceback 0#4 (acsRun c startMetrics [] z).2 []).take n = u ∧ u.length = n ∧
      (acsRun c startMetrics [] z).1.getD 0 none = some (symbolCost c.smax z (convEncode c u)) ∧
      ∀ u', u'.length = n → symbolCost c.smax z (convEncode c u) ≤ symbolCost c.smax z (convEncode c u') := by
  have hbest : ∀ u' : List Bool, u'.length = n → ∃ m,
      (acsRun c startMetrics [] z).1.getD 0 none = some m ∧ m ≤ symbolCost c.smax z (convEncode c u') := by
    intro u' hu'
    have hlen : z.length = 2 * (u' ++ [false, false, false, false]).length := by simp [hz, hu']
    have hle := acsRun_metric_le c [] (pm := startMetrics) (σ := 0#4) hlen rfl
    rw [convState_append, convState_tail, Nat.zero_add] at hle
    exact hle
  obtain ⟨m, hm, -⟩ := hbest (List.replicate n false) List.length_replicate
  obtain ⟨σ, m0, v, hstart, hlen, hend, hmetric, hpath⟩ := acsRun_traceback c startMetrics [] z (t := 0#4) hm
  obtain ⟨rfl, rfl⟩ := startMetrics_eq_some hstart
  have hlen : v.length = n + 4 := by omega
  have hv := eq_take_append_tail hlen hend
  have htake : (traceback 0#4 (acsRun c startMetrics [] z).2 []).take n = v.take n := by
    rw [hpath, List.append_nil, traceback]
  have hcost : m = symbolCost c.smax z (convEncode c (v.take n)) := by
    rw [hmetric, Nat.zero_add, pathMetric, convEncode, ← hv]
  refine ⟨v.take n, htake, by rw [List.length_take]; omega, hcost ▸ hm, fun u' hu' => ?_⟩
  obtain ⟨m', hm', hle⟩ := hbest u' hu'
  rw [hm, Option.some.injEq] at hm'
  omega

/-! #### Metric and error count (R321, R327) -/

@[simp] theorem length_depunctureFrom (smax : Nat) (pat : List Bool) (m j : Nat) (r : List Nat) :
    (depunctureFrom smax pat m j r).length = m := by
  induction m generalizing j r with
  | zero => rfl
  | succ m ih =>
    rw [depunctureFrom]
    split <;> rw [List.length_cons, ih]

/-- An erasure is as far from a 0 as from a 1. -/
theorem absDiff_erasure {smax h : Nat} (heven : smax = 2 * h) (b : Bool) : absDiff h (smax * b.toNat) = h := by
  cases b
  · simp [absDiff, eq_comm]
  · rw [absDiff, heven, Bool.toNat_true, if_pos (by omega)]
    omega

/-- A hard symbol is at distance 0 from its own bit and `SMAX` from the other. -/
theorem absDiff_hard (smax : Nat) (x b : Bool) :
    absDiff (x.toNat * smax) (smax * b.toNat) = smax * (x != b).toNat := by
  cases x <;> cases b <;> simp [absDiff, eq_comm]

/-- A hard symbol adds an error when its bit is not the coded one. -/
theorem bitErrors_hard_cons {smax : Nat} (hpos : 0 < smax) (x b : Bool) (r : List Nat) (bits : List Bool) :
    bitErrors smax (x.toNat * smax :: r) (b :: bits) = (x != b).toNat + bitErrors smax r bits := by
  have hsymbol :
      (decide (2 * (x.toNat * smax) ≠ smax) && (decide (2 * (x.toNat * smax) > smax) != b)) = (x != b) := by
    cases x
    · simp [hpos.ne]
    · simp only [Bool.toNat_true, Nat.one_mul]
      rw [decide_eq_true (by omega), decide_eq_true (by omega), Bool.true_and]
  rw [bitErrors, List.zip_cons_cons, List.countP_cons, hsymbol, Nat.add_comm]
  cases x <;> cases b <;> rfl

section
variable {c : Codec} {h : Nat}

/-- R327: every kept bit in error costs `SMAX`, every dropped one `SMAX / 2`. -/
theorem symbolCost_depunctureFrom (hpos : 0 < h) (heven : c.smax = 2 * h) (pat bits : List Bool) (j : Nat)
    {x : List Bool} (hx : x.length = (punctureFrom pat j bits).length) :
    symbolCost c.smax (depunctureFrom c.smax pat bits.length j (hardSymbols c x)) bits + h * x.length =
      c.smax * bitErrors c.smax (hardSymbols c x) (punctureFrom pat j bits) + h * bits.length := by
  have hhalf : c.smax / 2 = h := by omega
  induction bits generalizing j x with
  | nil =>
    obtain rfl := List.eq_nil_of_length_eq_zero hx
    rfl
  | cons b bits ih =>
    rw [punctureFrom] at hx
    rw [List.length_cons, depunctureFrom, punctureFrom]
    split
    · next hkept =>
      rw [if_pos hkept] at hx
      obtain ⟨x0, x, rfl⟩ := List.exists_cons_of_length_eq_add_one hx
      have htail := ih (j + 1) (Nat.succ.inj hx)
      rw [hardSymbols] at htail
      rw [hardSymbols, List.map_cons, List.headD_cons, List.tail_cons, symbolCost_cons, absDiff_hard,
        bitErrors_hard_cons (by omega), List.length_cons, Nat.mul_add, Nat.mul_add, Nat.mul_add]
      omega
    · next hdropped =>
      rw [if_neg hdropped] at hx
      rw [symbolCost_cons, hhalf, absDiff_erasure heven, Nat.mul_add]
      have htail := ih (j + 1) hx
      omega

/-- A block without errors. -/
theorem bitErrors_self (hpos : 0 < c.smax) (x : List Bool) : bitErrors c.smax (hardSymbols c x) x = 0 := by
  induction x with
  | nil => rfl
  | cons b x ih =>
    rw [hardSymbols, List.map_cons, bitErrors_hard_cons hpos, bne_self_eq_false]
    exact (Nat.zero_add _).trans ih

/-- Only a block equal to the received one is without errors. -/
theorem eq_of_bitErrors_eq_zero (hpos : 0 < c.smax) {x y : List Bool} (hlen : x.length = y.length)
    (hzero : bitErrors c.smax (hardSymbols c x) y = 0) : x = y := by
  induction x generalizing y with
  | nil => exact (List.eq_nil_of_length_eq_zero hlen.symm).symm
  | cons a x ih =>
    obtain ⟨b, y, rfl⟩ := List.exists_cons_of_length_eq_add_one hlen.symm
    rw [hardSymbols, List.map_cons, bitErrors_hard_cons hpos] at hzero
    obtain ⟨hhead, htail⟩ := Nat.add_eq_zero_iff.mp hzero
    rw [ih (Nat.succ.inj hlen) htail, show a = b by simpa using hhead]

/-- The cost of a data sequence's encoding, for a received block of the length that the pattern keeps. -/
theorem symbolCost_convEncode (hpos : 0 < h) (heven : c.smax = 2 * h) {pat : List Bool} {n : Nat} {x u : List Bool}
    (hx : x.length = keptBits pat (2 * (n + 4))) (hu : u.length = n) :
    symbolCost c.smax (depunctureFrom c.smax pat (2 * (n + 4)) 0 (hardSymbols c x)) (convEncode c u) + h * x.length =
      c.smax * bitErrors c.smax (hardSymbols c x) (puncture pat (convEncode c u)) + h * (2 * (n + 4)) := by
  have hcost := symbolCost_depunctureFrom hpos heven pat (convEncode c u) 0 (x := x)
    (by rw [← puncture, length_puncture, length_convEncode, hu, hx])
  rwa [length_convEncode, hu] at hcost

/-- R326 on the hard path: the answer is a data sequence, its error count, and a final metric that counts these
errors and the erasures (R327); every other data sequence has at least as many errors. -/
theorem viterbiDecode_hard (hpos : 0 < h) (heven : c.smax = 2 * h) {pat : List Bool} {n : Nat} {x u : List Bool}
    {errs metric : Nat} (hx : x.length = keptBits pat (2 * (n + 4)))
    (hd : viterbiDecode c pat n (hardSymbols c x) = (u, errs, metric)) :
    u.length = n ∧ errs = bitErrors c.smax (hardSymbols c x) (puncture pat (convEncode c u)) ∧
      metric + h * x.length = c.smax * errs + h * (2 * (n + 4)) ∧
      ∀ u', u'.length = n → errs ≤ bitErrors c.smax (hardSymbols c x) (puncture pat (convEncode c u')) := by
  obtain ⟨v, hdecoded, hv, hmetric, hbest⟩ :=
    acsRun_state0 c (length_depunctureFrom c.smax pat (2 * (n + 4)) 0 (hardSymbols c x))
  simp only [viterbiDecode, hdecoded, hmetric, Option.getD_some, Prod.mk.injEq] at hd
  obtain ⟨rfl, rfl, rfl⟩ := hd
  have hcount := symbolCost_convEncode hpos heven hx hv
  refine ⟨hv, rfl, hcount, fun u' hu' => ?_⟩
  have hcount' := symbolCost_convEncode hpos heven hx hu'
  have hle := hbest u' hu'
  exact Nat.le_of_mul_le_mul_left (by omega : c.smax * _ ≤ c.smax * _) (by omega)

end

/-! #### The punctured code is injective (R329) -/

/-- With the tap on the input itself, an output bit and the state determine the input. -/
theorem convOut_injective {g : BitVec 5} (hg : g.getLsbD 0 = true) {σ : BitVec 4} {u v : Bool}
    (h : convOut g σ u = convOut g σ v) : u = v := by
  simpa [convOut, ← BitVec.getLsbD_eq_getElem, hg] using h

/-- Whether the pattern keeps a coded bit of step `k`. -/
def keepsStep (pat : List Bool) (k : Nat) : Bool :=
  pat.getD (2 * k % pat.length) false || pat.getD ((2 * k + 1) % pat.length) false

/-- Two paths from one state, a coded bit of every step kept, whose punctured bits agree. -/
theorem eq_of_punctureFrom_convRun_eq {c : Codec} (hg1 : c.convG1.getLsbD 0 = true) (hg2 : c.convG2.getLsbD 0 = true)
    {pat : List Bool} {j : Nat} {σ : BitVec 4} {v w : List Bool} (hlen : v.length = w.length)
    (hkeep : ∀ k, k < v.length → keepsStep pat (j + k) = true)
    (h : punctureFrom pat (2 * j) (convRun c σ v) = punctureFrom pat (2 * j) (convRun c σ w)) : v = w := by
  induction v generalizing j σ w with
  | nil => exact (List.eq_nil_of_length_eq_zero hlen.symm).symm
  | cons a v ih =>
    obtain ⟨b, w, rfl⟩ := List.exists_cons_of_length_eq_add_one hlen.symm
    have hstep : keepsStep pat j = true := hkeep 0 (Nat.zero_lt_succ _)
    have hsplit : a = b ∧ punctureFrom pat (2 * (j + 1)) (convRun c (convNext σ a) v) =
        punctureFrom pat (2 * (j + 1)) (convRun c (convNext σ b) w) := by
      simp only [convRun, punctureFrom] at h
      split at h
      · obtain ⟨hout, h⟩ := List.cons.inj h
        refine ⟨convOut_injective hg1 hout, ?_⟩
        split at h
        · exact (List.cons.inj h).2
        · exact h
      · next hfirst =>
        have hsecond : pat.getD ((2 * j + 1) % pat.length) false = true := by
          simpa only [keepsStep, Bool.or_eq_true, hfirst, Bool.false_eq_true, false_or] using hstep
        rw [if_pos hsecond, if_pos hsecond] at h
        obtain ⟨hout, h⟩ := List.cons.inj h
        exact ⟨convOut_injective hg2 hout, h⟩
    obtain ⟨rfl, hrest⟩ := hsplit
    have hkeep' : ∀ k, k < v.length → keepsStep pat (j + 1 + k) = true := fun k hk => by
      rw [Nat.add_right_comm]
      exact hkeep (k + 1) (Nat.succ_lt_succ hk)
    rw [ih (Nat.succ.inj hlen) hkeep' hrest]

/-- R329: different data sequences of one length have different punctured encodings. -/
theorem eq_of_puncture_convEncode_eq {c : Codec} (hg1 : c.convG1.getLsbD 0 = true) (hg2 : c.convG2.getLsbD 0 = true)
    {pat u v : List Bool} (hlen : u.length = v.length) (hkeep : ∀ k, k < u.length + 4 → keepsStep pat k = true)
    (h : puncture pat (convEncode c u) = puncture pat (convEncode c v)) : u = v := by
  refine List.append_cancel_right (eq_of_punctureFrom_convRun_eq hg1 hg2 (j := 0) ?_ (fun k hk => ?_) h)
  · rw [List.length_append, List.length_append, hlen]
  · rw [Nat.zero_add]
    exact hkeep k (by simpa using hk)

/-- R329: a block without errors decodes to its data, with error count 0 and the metric of its erasures. -/
theorem viterbiDecode_puncture_convEncode {c : Codec} {h : Nat} (hpos : 0 < h) (heven : c.smax = 2 * h)
    (hg1 : c.convG1.getLsbD 0 = true) (hg2 : c.convG2.getLsbD 0 = true) {pat u : List Bool} {n : Nat}
    (hu : u.length = n) (hkeep : ∀ k, k < n + 4 → keepsStep pat k = true) :
    viterbiDecode c pat n (hardSymbols c (puncture pat (convEncode c u))) =
      (u, 0, h * (2 * (n + 4)) - h * keptBits pat (2 * (n + 4))) := by
  have hx : (puncture pat (convEncode c u)).length = keptBits pat (2 * (n + 4)) := by
    rw [length_puncture, length_convEncode, hu]
  have hsmax : 0 < c.smax := by omega
  rcases hd : viterbiDecode c pat n (hardSymbols c (puncture pat (convEncode c u))) with ⟨v, errs, metric⟩
  obtain ⟨hv, herrors, hmetric, hbest⟩ := viterbiDecode_hard hpos heven hx hd
  have hzero : errs = 0 := by
    have hle := hbest u hu
    rw [bitErrors_self hsmax] at hle
    exact Nat.le_zero.mp hle
  subst hzero
  have hkept : puncture pat (convEncode c u) = puncture pat (convEncode c v) :=
    eq_of_bitErrors_eq_zero hsmax (by rw [hx, length_puncture, length_convEncode, hv]) herrors.symm
  rw [eq_of_puncture_convEncode_eq hg1 hg2 (hu.trans hv.symm) (hu ▸ hkeep) hkept]
  rw [hx] at hmetric
  congr 2
  omega

/-! #### The default blocks -/

theorem seqBits_seqOfBits {n : Nat} {bits : List Bool} (hlen : bits.length = n) : seqBits (seqOfBits n bits) = bits :=
  List.ext_getElem (by rw [length_seqBits, hlen]) fun i hi hi' => by
    rw [getElem_seqBits, getMsbD_seqOfBits hlen hi']

theorem seqOfBits_seqBits {n : Nat} (s : BitVec n) : seqOfBits n (seqBits s) = s :=
  BitVec.eq_of_getMsbD_eq fun i hi => by
    rw [getMsbD_seqOfBits (length_seqBits s) (by rwa [length_seqBits]), getElem_seqBits]

theorem keptBits_punctP1 : keptBits Codec.standard.punctP1 (2 * (240 + 4)) = 368 := by decide +kernel

theorem keptBits_punctP2 : keptBits Codec.standard.punctP2 (2 * (144 + 4)) = 272 := by decide +kernel

/-- R314: `PUNCT_P1` never drops both bits of a step. -/
theorem keepsStep_punctP1 : ∀ k, k < 240 + 4 → keepsStep Codec.standard.punctP1 k = true := by decide +kernel

/-- R315: nor does `PUNCT_P2`. -/
theorem keepsStep_punctP2 : ∀ k, k < 144 + 4 → keepsStep Codec.standard.punctP2 k = true := by decide +kernel

theorem seqBits_encodeLinkSetup (u : BitVec 240) :
    seqBits (encodeLinkSetup Codec.standard u) =
      puncture Codec.standard.punctP1 (convEncode Codec.standard (seqBits u)) :=
  seqBits_seqOfBits (length_puncture_lsf (length_seqBits u))

theorem seqBits_encodeData (u : BitVec 144) :
    seqBits (encodeData Codec.standard u) =
      puncture Codec.standard.punctP2 (convEncode Codec.standard (seqBits u)) := by
  rw [encodeData_standard]
  exact seqBits_seqOfBits (length_puncture_stream (length_seqBits u))

/-- Settles O18: the encoded path has no errors, so neither has the decoded one, and the punctured code is
injective. -/
theorem noiseFreeBlocksDecode : Obligations.NoiseFreeBlocksDecode := by
  unfold Obligations.NoiseFreeBlocksDecode
  refine ⟨fun u => ?lsf, fun u => ?stream⟩
  case lsf =>
    rw [decodeLinkSetup, seqBits_encodeLinkSetup,
      viterbiDecode_puncture_convEncode (h := 1) (by decide) rfl rfl rfl (length_seqBits u) keepsStep_punctP1,
      seqOfBits_seqBits, keptBits_punctP1]
  case stream =>
    rw [decodeData, decodeBlock, seqBits_encodeData, Codec.standard_blockBits, slotsOfBlock_standard,
      viterbiDecode_puncture_convEncode (h := 1) (by decide) rfl rfl rfl (length_seqBits u) keepsStep_punctP2,
      seqOfBits_seqBits, keptBits_punctP2]

/-- R327 at the default `SMAX` of 2, for a received block of the length that the pattern keeps. -/
theorem viterbiDecode_standard_metric {pat : List Bool} {n : Nat} {x : List Bool}
    (hx : x.length = keptBits pat (2 * (n + 4))) :
    (viterbiDecode Codec.standard pat n (hardSymbols Codec.standard x)).2.2 + x.length =
      2 * (viterbiDecode Codec.standard pat n (hardSymbols Codec.standard x)).2.1 + 2 * (n + 4) := by
  obtain ⟨-, -, hmetric, -⟩ := viterbiDecode_hard (c := Codec.standard) Nat.one_pos rfl hx rfl
  rwa [Nat.one_mul, Nat.one_mul] at hmetric

/-- Settles O19: the metric counts the errors of the decoded path and its `2N - K` erasures. -/
theorem metricCountsBitErrors : Obligations.MetricCountsBitErrors := by
  unfold Obligations.MetricCountsBitErrors
  refine ⟨fun b => ?lsf, fun b => ?stream⟩
  case lsf =>
    have hmetric := viterbiDecode_standard_metric ((length_seqBits b).trans keptBits_punctP1.symm)
    rw [length_seqBits] at hmetric
    simp only [decodeLinkSetup]
    omega
  case stream =>
    have hmetric := viterbiDecode_standard_metric ((length_seqBits b).trans keptBits_punctP2.symm)
    rw [length_seqBits] at hmetric
    simp only [decodeData, decodeBlock, Codec.standard_blockBits]
    omega

end Sys2Proof.Machine
end

section
/-! ### What every step keeps of the receive sequencer (44_lsf_lich.md R368, R369, 45_rx_sequencer.md R410, R417)

`receiveOk` reads the configuration and the receive unit. Every operation outside unit RXS leaves both alone: of each
there is one equation, `receiveFields` is the same before and after. Unit RXS enters LISTENING with empty buffers and
starts a call from a valid primary only; in a call just the running buffer changes. -/

namespace Sys2Proof.Machine

/-! #### The fields the invariant speaks of -/

/-- What `receiveOk` reads. -/
def receiveFields (s : State) : Params × RxUnit := (s.cfg, s.rx)

/-- What `receiveOk` says of a call. -/
def callOk (s : State) : Prop :=
  isValid s.cfg.codec s.rx.primary = true ∧ isValid s.cfg.codec s.rx.running = false ∧
    callTarget (dataType s.rx.primary.lsf) = some s.rx.state

/-- What `receiveOk` says of LISTENING and LATE_ENTRY alike. -/
def outsideCallOk (s : State) : Prop :=
  isValid s.cfg.codec s.rx.primary = false ∧ s.rx.running = .empty

/-- R53: a call state is one that some data type leads to (R410). -/
theorem inCall_of_callTarget {dt : BitVec 2} {st : RxState} (h : callTarget dt = some st) : inCall st = true := by
  revert st
  revert dt
  decide

theorem callOk_of_receiveOk {s : State} (hcall : inCall s.rx.state = true) (hs : receiveOk s) : callOk s := by
  unfold receiveOk at hs
  unfold callOk
  cases hstate : s.rx.state <;> rw [hstate] at hs hcall
  case audio | audioData | data => exact hs
  all_goals cases hcall

theorem receiveOk_of_callOk {s : State} (hs : callOk s) : receiveOk s := by
  have hcall : inCall s.rx.state = true := by
    obtain ⟨-, -, htarget⟩ := hs
    exact inCall_of_callTarget htarget
  unfold callOk at hs
  unfold receiveOk
  cases hstate : s.rx.state <;> rw [hstate] at hs hcall
  case audio | audioData | data => exact hs
  all_goals cases hcall

theorem outsideCallOk_of_receiveOk {s : State} (hout : ¬inCall s.rx.state = true) (hs : receiveOk s) :
    outsideCallOk s := by
  unfold receiveOk at hs
  unfold outsideCallOk
  cases hstate : s.rx.state <;> rw [hstate] at hs hout
  case listening =>
    obtain ⟨hprimary, hrunning⟩ := hs
    rw [hprimary]
    exact ⟨empty_invalid _, hrunning⟩
  case lateEntry => exact hs
  all_goals exact absurd rfl hout

/-- R414, R415: a frame outside a call that starts none leaves the sequencer in LATE_ENTRY. -/
theorem lateEntry_receiveOk {s : State} (hs : outsideCallOk s) :
    receiveOk { s with rx := { s.rx with state := .lateEntry } } := hs

theorem receiveOk_of_receiveFields {s t : State} (h : receiveFields t = receiveFields s) (hs : receiveOk s) :
    receiveOk t := by
  simp only [receiveFields, Prod.mk.injEq] at h
  obtain ⟨hcfg, hrx⟩ := h
  simpa only [receiveOk, hcfg, hrx] using hs

theorem callOk_of_receiveFields {s t : State} (h : receiveFields t = receiveFields s) (hs : callOk s) :
    callOk t := by
  simp only [receiveFields, Prod.mk.injEq] at h
  obtain ⟨hcfg, hrx⟩ := h
  simpa only [callOk, hcfg, hrx] using hs

theorem outsideCallOk_of_receiveFields {s t : State} (h : receiveFields t = receiveFields s)
    (hs : outsideCallOk s) : outsideCallOk t := by
  simp only [receiveFields, Prod.mk.injEq] at h
  obtain ⟨hcfg, hrx⟩ := h
  simpa only [outsideCallOk, hcfg, hrx] using hs

/-- Both branches of a choice meet the invariant. -/
theorem receiveOk_ite {p : Prop} [Decidable p] {a b : State} (ha : p → receiveOk a) (hb : ¬p → receiveOk b) :
    receiveOk (if p then a else b) := by
  split
  case isTrue h => exact ha h
  case isFalse h => exact hb h

/-- Both branches of a choice keep the fields. -/
theorem receiveFields_ite {p : Prop} [Decidable p] {a b s : State} (ha : receiveFields a = receiveFields s)
    (hb : receiveFields b = receiveFields s) : receiveFields (if p then a else b) = receiveFields s := by
  split
  · exact ha
  · exact hb

/-- An operation done only under a condition keeps the fields if it does. -/
theorem receiveFields_ite_self {p : Prop} [Decidable p] {a s : State} (ha : receiveFields a = receiveFields s) :
    receiveFields (if p then a else s) = receiveFields s := receiveFields_ite ha rfl

/-! #### Errors, events and queues -/

theorem emit_receiveFields (ev : Event) (s : State) : receiveFields (emit ev s) = receiveFields s := by
  simp only [receiveFields, emit_cfg, emit_rx]

theorem raise_receiveFields (k : ErrCode) (s : State) : receiveFields (raise k s) = receiveFields s := by
  simp only [receiveFields, raise_cfg, raise_rx]

theorem pushRxq_receiveFields (e : TaggedFrame) (s : State) : receiveFields (pushRxq e s) = receiveFields s := by
  simp only [receiveFields, pushRxq_cfg, pushRxq_rx]

theorem pushTxq_receiveFields (e : TxEntry) (s : State) : receiveFields (pushTxq e s) = receiveFields s := by
  simp only [receiveFields, pushTxq_cfg, pushTxq_rx]

theorem pushPlq_receiveFields (r : PayloadRecord) (s : State) :
    receiveFields (pushPlq r s) = receiveFields s := by
  simp only [receiveFields, pushPlq_cfg, pushPlq_rx]

/-! #### A call (45_rx_sequencer.md R412, R416, R417, R421) -/

/-- R418: LISTENING holds nothing. -/
theorem enterListening_receiveOk (s : State) : receiveOk (enterListening s) := ⟨rfl, rfl⟩

theorem callEnd_receiveOk (r : EndReason) (s : State) : receiveOk (callEnd r s) := enterListening_receiveOk _

theorem feedReport_receiveFields (r : FeedResult) (s : State) : receiveFields (feedReport r s) = receiveFields s := by
  cases r with
  | stored n => rfl
  | golayFail => exact raise_receiveFields _ _
  | badPos => exact raise_receiveFields _ _

/-- R417: a running LSF that becomes valid is reported and dropped; a failed feed leaves it as it is. -/
theorem runningFeed_callOk (f : RfFrame) {s : State} (hs : callOk s) : callOk (runningFeed f s) := by
  obtain ⟨hprimary, hrunning, htarget⟩ := hs
  have hfail {k : ErrCode} : callOk (raise k s) :=
    callOk_of_receiveFields (raise_receiveFields k s) ⟨hprimary, hrunning, htarget⟩
  unfold runningFeed
  obtain ⟨-, h⟩ | ⟨-, -, h⟩ | ⟨-, -, h⟩ := feedLich_cases s.cfg.codec s.rx.running (rxLich s.cfg.codec f)
  · rw [h]; exact hfail
  · rw [h]; exact hfail
  · rw [h]
    dsimp only [feedReport]
    split
    case isTrue =>
      simp only [callOk, emit_cfg, emit_rx]
      exact ⟨hprimary, empty_invalid _, htarget⟩
    case isFalse hinvalid => exact ⟨hprimary, eq_false_of_ne_true hinvalid, htarget⟩

theorem pushAndFeed_callOk (r : PayloadRecord) (f : RfFrame) {s : State} (hs : callOk s) :
    callOk (pushAndFeed r f s) := by
  obtain ⟨-, -, h⟩ | ⟨-, h⟩ := pushAndFeed_cases r f s
  · rw [h]; exact callOk_of_receiveFields (pushPlq_receiveFields r _) (runningFeed_callOk f hs)
  · rw [h]; exact runningFeed_callOk f (callOk_of_receiveFields (pushPlq_receiveFields r s) hs)

theorem callFrame_receiveOk (f : RfFrame) (feed : Bool) {s : State} (hs : callOk s) :
    receiveOk (callFrame f feed s) := by
  unfold callFrame
  refine receiveOk_ite (fun _ => callEnd_receiveOk _ _) fun _ => receiveOk_of_callOk ?_
  cases feed with
  | true => exact pushAndFeed_callOk _ f (s := { s with rx := _ }) hs
  | false => exact callOk_of_receiveFields (pushPlq_receiveFields _ { s with rx := _ }) hs

/-- R412: a call starts with an empty running buffer. -/
theorem startCall_callOk {st : RxState} (via : Via) (l : Lsf) {s : State}
    (hvalid : isValid s.cfg.codec s.rx.primary = true)
    (htarget : callTarget (dataType s.rx.primary.lsf) = some st) : callOk (startCall st via l s) := by
  unfold startCall
  exact callOk_of_receiveFields (emit_receiveFields _ _) ⟨hvalid, empty_invalid _, htarget⟩

/-! #### Outside a call (R410 to R415) -/

theorem rejectLsf_receiveOk (cause : RejectCause) (l : Lsf) (s : State) : receiveOk (rejectLsf cause l s) :=
  enterListening_receiveOk _

/-- R410: an accepted LSF leads to the call state of its data type. -/
theorem callTarget_of_acceptLsf {l : Lsf} {s : State} {st : RxState} (h : acceptLsf l s = .inr st) :
    callTarget (dataType l) = some st := by
  obtain ⟨-, ha⟩ | ⟨-, -, -, ha⟩ | ⟨hdt, ha⟩ | ⟨hdt, ha⟩ | ⟨hdt, ha⟩ := acceptLsf_cases l s
  · rw [ha] at h; cases h
  · rw [ha] at h; cases h
  all_goals rw [ha] at h; cases h; rw [hdt]; rfl

theorem tryStart_receiveOk (late : Option RfFrame) {s : State}
    (hvalid : isValid s.cfg.codec s.rx.primary = true) : receiveOk (tryStart late s) := by
  unfold tryStart
  dsimp only
  split
  case h_1 => exact rejectLsf_receiveOk _ _ _
  case h_2 st haccept =>
    have hstart (via : Via) : callOk (startCall st via s.rx.primary.lsf s) :=
      startCall_callOk via _ hvalid (callTarget_of_acceptLsf haccept)
    cases late with
    | none => exact receiveOk_of_callOk (hstart .header)
    | some f => exact callFrame_receiveOk f false (hstart .lateEntry)

/-- A whole LSF (44_lsf_lich.md R368) is covered, so its CRC decides. -/
theorem isValid_setWhole (c : Codec) (l : Lsf) : isValid c (setWhole l) = crcOk c l := Bool.true_and _

theorem headerPath_receiveOk (f : RfFrame) {s : State} (hs : outsideCallOk s) : receiveOk (headerPath f s) := by
  unfold headerPath
  refine receiveOk_ite (fun hcrc => tryStart_receiveOk none ?_) fun _ => lateEntry_receiveOk ?_
  · exact (isValid_setWhole _ _).trans hcrc
  · exact outsideCallOk_of_receiveFields (raise_receiveFields .crc s) hs

theorem latePath_receiveOk (f : RfFrame) {s : State} (hs : outsideCallOk s) : receiveOk (latePath f s) := by
  obtain ⟨-, hrunning⟩ := hs
  unfold latePath
  obtain ⟨buf, result⟩ := feedLich s.cfg.codec s.rx.primary (rxLich s.cfg.codec f)
  refine receiveOk_ite (fun hvalid => tryStart_receiveOk _ hvalid) fun hinvalid => lateEntry_receiveOk ?_
  have hfields := feedReport_receiveFields result { s with rx := { s.rx with primary := buf } }
  simp only [receiveFields, Prod.mk.injEq] at hfields
  obtain ⟨-, hrx⟩ := hfields
  refine ⟨eq_false_of_ne_true hinvalid, ?_⟩
  rw [hrx]
  exact hrunning

/-! #### The tagged frames (R425) -/

theorem eotPath_receiveOk (s : State) : receiveOk (eotPath s) :=
  receiveOk_ite (fun _ => callEnd_receiveOk _ _) fun _ => enterListening_receiveOk _

/-- R419: the latch that LOST clears is no part of the invariant. -/
theorem lostPath_receiveOk (s : State) : receiveOk (lostPath s) := by
  have hlistening : receiveOk (if inCall s.rx.state then callEnd .lost s else enterListening s) :=
    receiveOk_ite (fun _ => callEnd_receiveOk _ _) fun _ => enterListening_receiveOk _
  exact hlistening

theorem reportRssi_receiveOk (has : Bool) (rssi : BitVec 16) {s : State} (hs : receiveOk s) :
    receiveOk (reportRssi has rssi s) :=
  receiveOk_of_receiveFields (receiveFields_ite_self (emit_receiveFields _ _)) hs

theorem doTagHeader_receiveOk (f : RfFrame) (has : Bool) (rssi : BitVec 16) {s : State} (hs : receiveOk s) :
    receiveOk (doTagHeader f has rssi s) := by
  have hrssi := reportRssi_receiveOk has rssi hs
  unfold doTagHeader
  exact receiveOk_ite (fun _ => receiveOk_of_receiveFields (raise_receiveFields _ _) hs) fun _ =>
    receiveOk_ite (fun _ => hrssi) fun hout => headerPath_receiveOk f (outsideCallOk_of_receiveOk hout hrssi)

theorem doTagData_receiveOk (f : RfFrame) (has : Bool) (rssi : BitVec 16) {s : State} (hs : receiveOk s) :
    receiveOk (doTagData f has rssi s) := by
  have hrssi := reportRssi_receiveOk has rssi hs
  unfold doTagData
  exact receiveOk_ite (fun _ => receiveOk_of_receiveFields (raise_receiveFields _ _) hs) fun _ =>
    receiveOk_ite (fun hin => callFrame_receiveOk f true (callOk_of_receiveOk hin hrssi)) fun hout =>
      latePath_receiveOk f (outsideCallOk_of_receiveOk hout hrssi)

theorem rxProcess_receiveOk (e : TaggedFrame) {s : State} (hs : receiveOk s) : receiveOk (rxProcess e s) := by
  unfold rxProcess
  exact receiveOk_ite (fun _ => doTagHeader_receiveOk _ _ _ hs) fun _ =>
    receiveOk_ite (fun _ => doTagData_receiveOk _ _ _ hs) fun _ =>
    receiveOk_ite (fun _ => reportRssi_receiveOk _ _ hs) fun _ =>
    receiveOk_ite (fun _ => lostPath_receiveOk _) fun _ =>
    receiveOk_ite (fun _ => eotPath_receiveOk _) fun _ => hs

theorem doRxInject_receiveOk (tag : BitVec 3) (has : Bool) {s : State} (hs : receiveOk s) :
    receiveOk (doRxInject tag has s) := by
  unfold doRxInject
  exact receiveOk_ite (fun _ => receiveOk_of_receiveFields (raise_receiveFields _ _) hs) fun _ =>
    rxProcess_receiveOk _ hs

/-- R431. -/
theorem doRxReset_receiveOk (s : State) : receiveOk (doRxReset s) := ⟨rfl, rfl⟩

/-! #### The serial engine (47_serial_engine.md) -/

theorem openFail_receiveFields (k : ErrCode) (s : State) : receiveFields (openFail k s) = receiveFields s := by
  simp only [receiveFields, openFail_cfg, openFail_rx]

theorem resend_receiveFields (s : State) : receiveFields (resend s) = receiveFields s :=
  receiveFields_ite rfl (receiveFields_ite rfl (receiveFields_ite_self rfl))

theorem respTimeout_receiveFields (s : State) : receiveFields (respTimeout s) = receiveFields s := by
  unfold respTimeout
  dsimp only
  exact receiveFields_ite (receiveFields_ite (resend_receiveFields s) (openFail_receiveFields _ _))
    ((emit_receiveFields _ _).trans (raise_receiveFields _ _))

theorem m17Frame_receiveFields (tag : BitVec 3) (p : List Byte) (s : State) :
    receiveFields (m17Frame tag p s) = receiveFields s :=
  receiveFields_ite rfl (receiveFields_ite (raise_receiveFields _ _) (pushRxq_receiveFields _ _))

theorem ackReply_receiveFields (c : Byte) (s : State) : receiveFields (ackReply c s) = receiveFields s := by
  unfold ackReply
  refine receiveFields_ite_self ?_
  cases s.link.state with
  | config => rfl
  | freq => exact emit_receiveFields _ _
  | opened => exact emit_receiveFields _ _
  | closed | version | backoff => rfl

theorem nakReply_receiveFields (c r : Byte) (s : State) : receiveFields (nakReply c r s) = receiveFields s := by
  unfold nakReply
  refine receiveFields_ite_self (Eq.trans ?_ (emit_receiveFields (.ackNak 0x7F#8 c r)
    { s with link := { s.link with lastNak := r } }))
  dsimp only
  split
  · exact openFail_receiveFields _ _
  · exact openFail_receiveFields _ _
  · exact raise_receiveFields _ _
  all_goals rfl

theorem doSerGetVersion_receiveFields (p : List Byte) (s : State) :
    receiveFields (doSerGetVersion p s) = receiveFields s := by
  cases p with
  | nil => exact raise_receiveFields _ _
  | cons v rest => exact receiveFields_ite rfl (receiveFields_ite rfl (raise_receiveFields _ _))

theorem doSerGetStatus_receiveFields (p : List Byte) (s : State) :
    receiveFields (doSerGetStatus p s) = receiveFields s :=
  receiveFields_ite rfl (receiveFields_ite (raise_receiveFields _ _) rfl)

theorem doSerAck_receiveFields (p : List Byte) (s : State) : receiveFields (doSerAck p s) = receiveFields s := by
  cases p with
  | nil => exact raise_receiveFields _ _
  | cons c rest => exact ackReply_receiveFields _ _

theorem doSerNak_receiveFields (p : List Byte) (s : State) : receiveFields (doSerNak p s) = receiveFields s := by
  unfold doSerNak
  split
  · exact nakReply_receiveFields _ _ _
  · exact raise_receiveFields _ _

theorem exec_serial_receiveFields {i : Instr} (hi : isSerial i = true) {s t : State} (h : exec i s = .next t) :
    receiveFields t = receiveFields s := by
  cases i
  case serGetVersion p => cases h; exact doSerGetVersion_receiveFields _ _
  case serGetStatus p => cases h; exact doSerGetStatus_receiveFields _ _
  case serSetConfig p | serSetMode p | serSetFreq p => cases h; exact raise_receiveFields _ _
  case serM17LinkSetup p | serM17Stream p | serM17Packet p => cases h; exact m17Frame_receiveFields _ _ _
  case serM17Lost p => cases h; exact receiveFields_ite_self (pushRxq_receiveFields _ _)
  case serAck p => cases h; exact doSerAck_receiveFields _ _
  case serNak p => cases h; exact doSerNak_receiveFields _ _
  case serDebug1 p | serDebug2 p | serDebug3 p | serDebug4 p | serDebug5 p =>
    cases h; exact emit_receiveFields _ _
  all_goals cases hi

theorem handleFrame_receiveFields (type : Byte) (p : List Byte) (s : State) :
    receiveFields (handleFrame type p s) = receiveFields s := by
  obtain h | ⟨i, hi, h⟩ := handleFrame_cases type p s
  · rw [h]; exact raise_receiveFields _ _
  · exact exec_serial_receiveFields hi h

/-! #### A tick (R500) -/

theorem completeOr_receiveFields (p : ParserPos) (s : State) :
    receiveFields (completeOr p s) = receiveFields s :=
  receiveFields_ite (receiveFields_ite (raise_receiveFields _ _) (handleFrame_receiveFields _ _ _)) rfl

theorem parseByte_receiveFields (b : Byte) (s : State) : receiveFields (parseByte b s) = receiveFields s := by
  unfold parseByte
  cases s.parser.pos with
  | start => exact receiveFields_ite_self rfl
  | length1 => exact receiveFields_ite rfl (receiveFields_ite (raise_receiveFields _ _) rfl)
  | length2 => rfl
  | type => exact completeOr_receiveFields _ _
  | data => exact completeOr_receiveFields _ _

theorem foldl_parseByte_receiveFields (bytes : List Byte) (s : State) :
    receiveFields (bytes.foldl (fun s b => parseByte b s) s) = receiveFields s := by
  induction bytes generalizing s with
  | nil => rfl
  | cons b rest ih => exact (ih _).trans (parseByte_receiveFields b s)

/-- Phases 1 and 2. -/
theorem parseBytes_advanceTimers_receiveFields (bytes : List Byte) (dt : Nat) (s : State) :
    receiveFields (parseBytes bytes (advanceTimers dt s)) = receiveFields s :=
  receiveFields_ite (foldl_parseByte_receiveFields bytes (advanceTimers dt s)) rfl

/-- Phase 3. -/
theorem rxLoop_receiveOk (q : List TaggedFrame) {s : State} (hs : receiveOk s) : receiveOk (rxLoop q s) := by
  induction q generalizing s with
  | nil => exact hs
  | cons e rest ih => exact ih (rxProcess_receiveOk e (s := { s with rxq := rest }) hs)

/-- Phase 4. -/
theorem txDrain_receiveFields (s : State) : receiveFields (txDrain s) = receiveFields s := by
  unfold txDrain
  refine receiveFields_ite_self ?_
  cases s.txq with
  | nil => rfl
  | cons e rest => rfl

theorem portAction_receiveFields (ok : Bool) (s : State) : receiveFields (portAction ok s) = receiveFields s :=
  receiveFields_ite_self (receiveFields_ite rfl (openFail_receiveFields _ _))

theorem respAction_receiveFields (s : State) : receiveFields (respAction s) = receiveFields s :=
  receiveFields_ite_self (respTimeout_receiveFields _)

theorem watchdogAction_receiveFields (s : State) : receiveFields (watchdogAction s) = receiveFields s :=
  receiveFields_ite_self ((emit_receiveFields _ _).trans (raise_receiveFields _ _))

/-- Phase 5. -/
theorem timerActions_receiveFields (ok : Bool) (s : State) :
    receiveFields (timerActions ok s) = receiveFields s :=
  calc receiveFields (timerActions ok s)
    _ = receiveFields (watchdogAction (respAction (portAction ok (backoffAction s)))) := receiveFields_ite_self rfl
    _ = receiveFields (respAction (portAction ok (backoffAction s))) := watchdogAction_receiveFields _
    _ = receiveFields (portAction ok (backoffAction s)) := respAction_receiveFields _
    _ = receiveFields (backoffAction s) := portAction_receiveFields _ _
    _ = receiveFields s := receiveFields_ite_self rfl

theorem tick_receiveOk (dt : Nat) (bytes : List Byte) (ok : Bool) {s : State} (hs : receiveOk s) :
    receiveOk (tick dt bytes ok s) :=
  receiveOk_of_receiveFields ((timerActions_receiveFields _ _).trans (txDrain_receiveFields _)) <|
    rxLoop_receiveOk _ (receiveOk_of_receiveFields (parseBytes_advanceTimers_receiveFields bytes dt s) hs)

/-! #### The host port (48_host_port.md) -/

theorem doEvPop_receiveFields (s : State) : receiveFields (doEvPop s) = receiveFields s := by
  unfold doEvPop
  cases s.evq with
  | nil => rfl
  | cons ev rest => rfl

theorem doPlPop_receiveFields (s : State) : receiveFields (doPlPop s) = receiveFields s := by
  unfold doPlPop
  cases s.plq with
  | nil => rfl
  | cons r rest => rfl

theorem doTxPayload_receiveFields (eos : Bool) (s : State) :
    receiveFields (doTxPayload eos s) = receiveFields s := by
  have hheader : receiveFields (headerFirst s) = receiveFields s :=
    receiveFields_ite_self (pushTxq_receiveFields _ s)
  have hlatch : receiveFields (latchLich (headerFirst s)) = receiveFields (headerFirst s) :=
    receiveFields_ite_self (receiveFields_ite rfl rfl)
  unfold doTxPayload
  exact receiveFields_ite (raise_receiveFields _ _) ((pushTxq_receiveFields _ _).trans (hlatch.trans hheader))

theorem doTxEnd_receiveFields (s : State) : receiveFields (doTxEnd s) = receiveFields s := by
  unfold doTxEnd
  cases s.tx.state with
  | none => exact raise_receiveFields _ _
  | header => rfl
  | audio | ending => exact pushTxq_receiveFields _ _

theorem doLinkOpen_receiveFields (s : State) : receiveFields (doLinkOpen s) = receiveFields s := by
  unfold doLinkOpen
  cases s.link.state with
  | closed | backoff => rfl
  | version | config | freq | opened => exact raise_receiveFields _ _

/-- Of the commands only `RX_INJECT` and `RX_RESET` touch the receive unit. -/
theorem exec_command_receiveOk {i : Instr} (hi : isCommand i = true) {s t : State} (h : exec i s = .next t)
    (hs : receiveOk s) : receiveOk t := by
  cases i
  case rxInject tag has => cases h; exact doRxInject_receiveOk tag has hs
  case rxReset => cases h; exact doRxReset_receiveOk s
  case crc16 n =>
    cases h; exact receiveOk_of_receiveFields (receiveFields_ite (raise_receiveFields _ _) rfl) hs
  case txStart =>
    cases h; exact receiveOk_of_receiveFields (receiveFields_ite (raise_receiveFields _ _) rfl) hs
  case txPayload eos => cases h; exact receiveOk_of_receiveFields (doTxPayload_receiveFields _ _) hs
  case txEnd => cases h; exact receiveOk_of_receiveFields (doTxEnd_receiveFields _) hs
  case linkOpen => cases h; exact receiveOk_of_receiveFields (doLinkOpen_receiveFields _) hs
  case linkClose => cases h; exact receiveOk_of_receiveFields (emit_receiveFields _ _) hs
  case linkSetMode mode =>
    cases h; exact receiveOk_of_receiveFields (receiveFields_ite (raise_receiveFields _ _) rfl) hs
  case evPop => cases h; exact receiveOk_of_receiveFields (doEvPop_receiveFields _) hs
  case plPop => cases h; exact receiveOk_of_receiveFields (doPlPop_receiveFields _) hs
  case nop | txNextLsf | genc d | gdec w | cencLsf | cencStr | ilv | dilv | scr | lenc | cdecLsf | cdecLsfSoft
    | cdecStr | cdecStrSoft | ldec => cases h; exact hs
  all_goals cases hi

theorem execute_receiveOk (word : Word) {s : State} (hs : receiveOk s) : receiveOk (execute word s) := by
  obtain h | ⟨i, hi, h⟩ := execute_cases word s
  · rw [h]; exact receiveOk_of_receiveFields (raise_receiveFields _ _) hs
  · exact exec_command_receiveOk hi h hs

theorem writeReg_receiveOk (sel : Byte) (data : Word) {s : State} (hs : receiveOk s) :
    receiveOk (writeReg sel data s) := by
  unfold writeReg
  split
  iterate 5 exact hs
  · exact execute_receiveOk data hs
  · exact receiveOk_of_receiveFields (raise_receiveFields _ _) hs

theorem doRd_receiveFields (sel : Byte) (s : State) : receiveFields (doRd sel s) = receiveFields s := by
  unfold doRd
  cases readReg sel s with
  | some v => rfl
  | none => exact raise_receiveFields _ _

theorem doBrd_receiveFields (sp : Byte) (off : BitVec 16) (s : State) :
    receiveFields (doBrd sp off s) = receiveFields s := by
  unfold doBrd
  obtain ⟨_, _, -, -, h⟩ | h := hostBufRead_cases sp off.toNat s
  · rw [h]; rfl
  · rw [h]; exact raise_receiveFields _ _

theorem doBwr_receiveFields (sp : Byte) (off : BitVec 16) (data : Byte) (s : State) :
    receiveFields (doBwr sp off data s) = receiveFields s := by
  unfold doBwr
  obtain ⟨_, -, -, h⟩ | h := hostBufWrite_cases sp off.toNat data s
  · rw [h]; rfl
  · rw [h]; exact raise_receiveFields _ _

theorem exec_decodePort_receiveOk (w : BitVec 64) {s t : State} (h : exec (decodePort w) s = .next t)
    (hs : receiveOk s) : receiveOk t := by
  unfold decodePort at h
  dsimp only at h
  split at h
  · cases h; exact receiveOk_of_receiveFields (doRd_receiveFields _ _) hs
  · split at h
    · cases h; exact writeReg_receiveOk _ _ hs
    · split at h
      · cases h; exact receiveOk_of_receiveFields (doBrd_receiveFields _ _ _) hs
      · cases h; exact receiveOk_of_receiveFields (doBwr_receiveFields _ _ _ _) hs

/-! #### Every step -/

/-- Settles O58: host transactions but `RX_INJECT` and `RX_RESET`, and the phases of a tick but the third, leave the
receive unit alone; each tagged frame keeps it consistent. -/
theorem stepKeepsReceiveConsistent : Obligations.StepKeepsReceiveConsistent := by
  unfold Obligations.StepKeepsReceiveConsistent
  intro s t hs h
  obtain ⟨-, rfl⟩ | ⟨e, rest, -, hstep⟩ := step_cases s t h
  · exact hs
  · have hfetched : receiveOk { s with inputs := rest, serialOut := [] } := hs
    obtain ⟨w, -, hexec⟩ | ⟨dt, bytes, ok, -, rfl⟩ | ⟨-, rfl⟩ := hstep
    · exact exec_decodePort_receiveOk w hexec hfetched
    · exact tick_receiveOk dt bytes ok hfetched
    · exact ⟨rfl, rfl⟩

end Sys2Proof.Machine
end

section
/-! ### The bytes of a string, and the CRC16 of a Link Setup Frame (44_lsf_lich.md R363, R364)

One shift of the CRC is linear, and injective for a polynomial with a constant term. So the CRC of a message with its
CRC behind it is 0 exactly if that CRC is right, and the CRC of a message with a bit inverted differs by the CRC of that
bit alone, which is not 0. -/

namespace Sys2Proof.Machine

/-! #### Bytes (00_scope.md R14) -/

theorem getLsbD_byteAt {n : Nat} (s : BitVec n) {j m : Nat} (hj : 8 * j + 8 ≤ n) (hm : m < 8) :
    (byteAt s j).getLsbD m = s.getLsbD (n - 8 - 8 * j + m) := by
  rw [byteAt, if_pos hj, BitVec.getLsbD_extractLsb', decide_eq_true hm, Bool.true_and]

theorem bytesOfSeq_eq_map_byteAt {k : Nat} (s : BitVec (8 * k)) : bytesOfSeq s = (List.range k).map (byteAt s) := by
  have hk : (8 * k + 7) / 8 = k := by omega
  unfold bytesOfSeq
  dsimp only
  rw [List.map_congr_left (g := byteAt s), hk]
  intro j hj
  rw [hk, List.mem_range] at hj
  refine BitVec.eq_of_getLsbD_eq fun m hm => ?_
  rw [getLsbD_byteAt s (by omega) hm]
  simp only [BitVec.getLsbD_extractLsb', BitVec.getLsbD_shiftLeft, BitVec.getLsbD_setWidth, hk]
  have hpos : 8 * (k - 1 - j) + m = 8 * k - 8 - 8 * j + m := by omega
  have hlt : 8 * k - 8 - 8 * j + m < 8 * k := by omega
  simp only [Nat.sub_self, Nat.sub_zero, Nat.not_lt_zero, hpos, hlt, hm, decide_true, decide_false, Bool.not_false,
    Bool.true_and]

theorem eq_of_byteAt_eq {k : Nat} {s t : BitVec (8 * k)} (h : ∀ j, j < k → byteAt s j = byteAt t j) : s = t := by
  refine BitVec.eq_of_getLsbD_eq fun i hi => ?_
  have hpos : 8 * k - 8 - 8 * (k - 1 - i / 8) + i % 8 = i := by omega
  have hbit := congrArg (·.getLsbD (i % 8)) (h (k - 1 - i / 8) (by omega))
  rwa [getLsbD_byteAt s (by omega) (by omega), getLsbD_byteAt t (by omega) (by omega), hpos] at hbit

/-! #### One shift -/

theorem crcShift_zero (p : BitVec 16) : crcShift p 0#16 = 0#16 := rfl

theorem crcShift_xor (p a b : BitVec 16) : crcShift p (a ^^^ b) = crcShift p a ^^^ crcShift p b := by
  have hsum : (a ^^^ b) <<< 1 = a <<< 1 ^^^ b <<< 1 := BitVec.shiftLeft_xor_distrib a b 1
  unfold crcShift
  rw [BitVec.getLsbD_xor, hsum]
  cases a.getLsbD 15 <;> cases b.getLsbD 15 <;>
    simp only [Bool.xor_false, Bool.xor_true, Bool.not_true, Bool.not_false, Bool.false_eq_true, if_true, if_false]
  · exact BitVec.xor_assoc _ _ _
  · rw [BitVec.xor_assoc, BitVec.xor_comm _ p, ← BitVec.xor_assoc]
  · rw [BitVec.xor_comm (b <<< 1) p, BitVec.xor_assoc, ← BitVec.xor_assoc p p, BitVec.xor_self, BitVec.zero_xor]

/-- The shift brings in a zero, and only the polynomial's constant term can set that bit again. -/
theorem eq_zero_of_crcShift_eq_zero {p : BitVec 16} (hp : p.getLsbD 0 = true) {a : BitVec 16}
    (h : crcShift p a = 0#16) : a = 0#16 := by
  unfold crcShift at h
  split at h
  case isTrue =>
    have hlow : (a <<< 1 ^^^ p).getLsbD 0 = true := by
      rw [BitVec.getLsbD_xor, hp, BitVec.getLsbD_shiftLeft]
      rfl
    rw [h] at hlow
    cases hlow
  case isFalse htop =>
    refine BitVec.eq_of_getLsbD_eq fun i hi => ?_
    rw [BitVec.getLsbD_zero]
    by_cases hi15 : i = 15
    case pos => rw [hi15]; exact eq_false_of_ne_true htop
    case neg =>
      have hbit : (a <<< 1).getLsbD (i + 1) = false := by rw [h]; exact BitVec.getLsbD_zero
      rwa [BitVec.getLsbD_shiftLeft, decide_eq_true (by omega), decide_eq_false (by omega), Bool.true_and,
        Bool.not_false, Bool.true_and, Nat.add_sub_cancel] at hbit

/-! #### Several shifts -/

theorem crcShift_iterate_xor (p : BitVec 16) (n : Nat) (a b : BitVec 16) :
    (crcShift p)^[n] (a ^^^ b) = (crcShift p)^[n] a ^^^ (crcShift p)^[n] b := by
  induction n generalizing a b with
  | zero => rfl
  | succ n ih => simp only [Function.iterate_succ_apply, crcShift_xor, ih]

theorem crcShift_iterate_eq_zero_iff {p : BitVec 16} (hp : p.getLsbD 0 = true) (n : Nat) (a : BitVec 16) :
    (crcShift p)^[n] a = 0#16 ↔ a = 0#16 := by
  induction n with
  | zero => rfl
  | succ n ih =>
    rw [Function.iterate_succ_apply', ← ih]
    constructor
    · exact eq_zero_of_crcShift_eq_zero hp
    · intro h
      rw [h, crcShift_zero]

/-- The low byte meets the top bit only after eight shifts. -/
theorem crcShift_iterate_lowByte (p : BitVec 16) (b : Byte) {n : Nat} (hn : n ≤ 8) :
    (crcShift p)^[n] (b.setWidth 16) = b.setWidth 16 <<< n := by
  induction n with
  | zero => exact (BitVec.shiftLeft_zero _).symm
  | succ n ih =>
    have htop : (b.setWidth 16 <<< n).getLsbD 15 = false := by
      rw [BitVec.getLsbD_shiftLeft, BitVec.getLsbD_setWidth, BitVec.getLsbD_of_ge b (15 - n) (by omega)]
      simp only [Bool.and_false]
    rw [Function.iterate_succ_apply', ih (by omega), crcShift, htop, if_neg Bool.false_ne_true,
      ← BitVec.shiftLeft_add]

/-! #### One byte and two -/

theorem crcByte_eq_iterate (p c : BitVec 16) (b : Byte) :
    crcByte p c b = (crcShift p)^[8] (c ^^^ b.setWidth 16 <<< 8) :=
  List.foldl_const _ _ _

theorem crcByte_xor (p c d : BitVec 16) (a b : Byte) :
    crcByte p (c ^^^ d) (a ^^^ b) = crcByte p c a ^^^ crcByte p d b := by
  have hsum : (c ^^^ d) ^^^ (a ^^^ b).setWidth 16 <<< 8 =
      (c ^^^ a.setWidth 16 <<< 8) ^^^ (d ^^^ b.setWidth 16 <<< 8) := by
    rw [BitVec.setWidth_xor, BitVec.shiftLeft_xor_distrib]
    ac_rfl
  rw [crcByte_eq_iterate, crcByte_eq_iterate, crcByte_eq_iterate, hsum, crcShift_iterate_xor]

theorem crcByte_eq_zero_iff {p : BitVec 16} (hp : p.getLsbD 0 = true) (c : BitVec 16) (b : Byte) :
    crcByte p c b = 0#16 ↔ c = b.setWidth 16 <<< 8 := by
  rw [crcByte_eq_iterate, crcShift_iterate_eq_zero_iff hp, BitVec.xor_eq_zero_iff]

/-- Two bytes are taken in as one 16-bit word. -/
theorem crcByte_crcByte (p c w : BitVec 16) :
    crcByte p (crcByte p c (w.extractLsb' 8 8)) (w.extractLsb' 0 8) = (crcShift p)^[16] (c ^^^ w) := by
  have hword : (w.extractLsb' 8 8).setWidth 16 <<< 8 ^^^ (w.extractLsb' 0 8).setWidth 16 = w := by
    refine BitVec.eq_of_getLsbD_eq fun i hi => ?_
    by_cases h8 : i < 8
    case pos => simp [h8, hi]
    case neg =>
      have hpos : 8 + (i - 8) = i := by omega
      have hlt : i - 8 < 8 := by omega
      simp [h8, hi, hpos, hlt]
  rw [crcByte_eq_iterate, crcByte_eq_iterate, ← crcShift_iterate_lowByte p (w.extractLsb' 0 8) le_rfl,
    ← crcShift_iterate_xor, ← Function.iterate_add_apply, BitVec.xor_assoc, hword]

/-! #### Byte strings -/

/-- The CRC is linear in the start value and the message together. -/
theorem foldl_crcByte_xor (p : BitVec 16) (f g : Nat → Byte) (js : List Nat) (a b : BitVec 16) :
    (js.map fun j => f j ^^^ g j).foldl (crcByte p) (a ^^^ b) =
      (js.map f).foldl (crcByte p) a ^^^ (js.map g).foldl (crcByte p) b := by
  induction js generalizing a b with
  | nil => rfl
  | cons j js ih => simp only [List.map_cons, List.foldl_cons, crcByte_xor, ih]

theorem foldl_crcByte_zeros_eq_zero_iff {p : BitVec 16} (hp : p.getLsbD 0 = true) {bytes : List Byte}
    (hzero : ∀ b ∈ bytes, b = 0#8) (c : BitVec 16) : bytes.foldl (crcByte p) c = 0#16 ↔ c = 0#16 := by
  induction bytes generalizing c with
  | nil => rfl
  | cons b rest ih =>
    obtain ⟨rfl, hrest⟩ := List.forall_mem_cons.mp hzero
    rw [List.foldl_cons, ih hrest, crcByte_eq_zero_iff hp]
    rfl

/-- From a zero start, one byte that is not 0 leaves a CRC that is not 0. -/
theorem foldl_crcByte_ne_zero {p : BitVec 16} (hp : p.getLsbD 0 = true) {f : Nat → Byte} {js : List Nat}
    (hnodup : js.Nodup) {j : Nat} (hj : j ∈ js) (hbyte : f j ≠ 0#8) (hother : ∀ k, k ≠ j → f k = 0#8) :
    (js.map f).foldl (crcByte p) 0#16 ≠ 0#16 := by
  obtain ⟨pre, post, rfl⟩ := List.append_of_mem hj
  obtain ⟨-, hafter, hpre⟩ := List.nodup_append.mp hnodup
  obtain ⟨hpost, -⟩ := List.nodup_cons.mp hafter
  have hzeros {ks : List Nat} (hks : ∀ k ∈ ks, k ≠ j) : ∀ b ∈ ks.map f, b = 0#8 :=
    List.forall_mem_map.mpr fun k hk => hother k (hks k hk)
  have hstart : (pre.map f).foldl (crcByte p) 0#16 = 0#16 :=
    (foldl_crcByte_zeros_eq_zero_iff hp (hzeros fun k hk => hpre k hk j List.mem_cons_self) _).mpr rfl
  rw [List.map_append, List.map_cons, List.foldl_append, List.foldl_cons, hstart, ne_eq,
    foldl_crcByte_zeros_eq_zero_iff hp (hzeros fun k hk hkj => hpost (hkj ▸ hk)),
    crcByte_eq_zero_iff hp]
  intro hshift
  refine hbyte (BitVec.eq_of_getLsbD_eq fun i hi => ?_)
  have hbit := congrArg (·.getLsbD (i + 8)) hshift
  simpa [show i + 8 < 16 by omega] using hbit.symm

/-! #### The CRC of an LSF (R364) -/

theorem lsfCovered_lsfSeal (c : Codec) (l : Lsf) : lsfCovered (lsfSeal c l) = lsfCovered l :=
  BitVec.extractLsb'_append_eq_left

theorem lsfCrc_lsfSeal (c : Codec) (l : Lsf) : lsfCrc (lsfSeal c l) = crc16Of c (bytesOfSeq (lsfCovered l)) :=
  BitVec.extractLsb'_append_eq_right

theorem crcOk_iff (c : Codec) (l : Lsf) : crcOk c l = true ↔ crc16Of c (bytesOfSeq (lsfCovered l)) = lsfCrc l :=
  decide_eq_true_iff

theorem crcOk_lsfSeal (c : Codec) (l : Lsf) : crcOk c (lsfSeal c l) = true := by
  rw [crcOk_iff, lsfCovered_lsfSeal, lsfCrc_lsfSeal]

theorem bytesOfSeq_lsf (l : Lsf) : bytesOfSeq l = (List.range 30).map (byteAt l) :=
  bytesOfSeq_eq_map_byteAt (k := 30) l

/-- R360: the CRC field is the last two bytes. -/
theorem bytesOfSeq_eq_covered_append_crc (l : Lsf) :
    bytesOfSeq l = bytesOfSeq (lsfCovered l) ++ [(lsfCrc l).extractLsb' 8 8, (lsfCrc l).extractLsb' 0 8] := by
  have hcovered : (List.range 28).map (byteAt (lsfCovered l)) = (List.range 28).map (byteAt l) := by
    refine List.map_congr_left fun j hj => BitVec.eq_of_getLsbD_eq fun m hm => ?_
    rw [List.mem_range] at hj
    have hpos : 16 + (224 - 8 - 8 * j + m) = 240 - 8 - 8 * j + m := by omega
    rw [getLsbD_byteAt _ (by omega) hm, getLsbD_byteAt _ (by omega) hm, lsfCovered, BitVec.getLsbD_extractLsb',
      hpos, decide_eq_true (by omega), Bool.true_and]
  have hlast : [(lsfCrc l).extractLsb' 8 8, (lsfCrc l).extractLsb' 0 8] = [byteAt l 28, byteAt l 29] := by
    congr 1
    · exact BitVec.extractLsb'_extractLsb'_of_le (by decide)
    · exact congrArg (fun b => [b]) (BitVec.extractLsb'_extractLsb'_of_le (by decide))
  rw [hlast, bytesOfSeq_lsf, bytesOfSeq_eq_map_byteAt (k := 28), hcovered]
  rfl

/-- R364: the CRC over the 30 bytes takes in the right CRC to 0, and no other. -/
theorem crcOk_iff_crc16Of_eq_zero {c : Codec} (hp : c.crcPoly.getLsbD 0 = true) (l : Lsf) :
    crcOk c l = true ↔ crc16Of c (bytesOfSeq l) = 0#16 := by
  have hwhole : crc16Of c (bytesOfSeq l) =
      (crcShift c.crcPoly)^[16] (crc16Of c (bytesOfSeq (lsfCovered l)) ^^^ lsfCrc l) := by
    rw [crc16Of, bytesOfSeq_eq_covered_append_crc, List.foldl_append, List.foldl_cons, List.foldl_cons,
      List.foldl_nil, crcByte_crcByte, crc16Of]
  rw [crcOk_iff, hwhole, crcShift_iterate_eq_zero_iff hp, BitVec.xor_eq_zero_iff]

/-- R363: the default polynomial has a constant term. -/
theorem standard_crcPoly_odd : Codec.standard.crcPoly.getLsbD 0 = true := rfl

/-! #### One inverted bit -/

theorem crc16Of_xor (c : Codec) (l e : Lsf) :
    crc16Of c (bytesOfSeq (l ^^^ e)) =
      crc16Of c (bytesOfSeq l) ^^^ (bytesOfSeq e).foldl (crcByte c.crcPoly) 0#16 := by
  have hbytes : byteAt (l ^^^ e) = fun j => byteAt l j ^^^ byteAt e j := funext (byteAt_xor l e)
  simp only [crc16Of, bytesOfSeq_lsf, ← foldl_crcByte_xor, BitVec.xor_zero, hbytes]

/-- The only set bit of `1 <<< i` is bit `i`, in byte `29 - i / 8`. -/
theorem getLsbD_byteAt_shiftLeft {i k m : Nat} (hk : k < 30) (hm : m < 8) :
    (byteAt (1#240 <<< i) k).getLsbD m = decide (240 - 8 - 8 * k + m = i) := by
  rw [getLsbD_byteAt _ (by omega) hm, ← BitVec.twoPow_eq, BitVec.getLsbD_twoPow]
  simp only [decide_eq_decide.mpr eq_comm, Bool.and_eq_right_iff_imp, decide_eq_true_eq]
  omega

theorem byteAt_shiftLeft_ne_zero {i : Nat} (hi : i < 240) : byteAt (1#240 <<< i) (29 - i / 8) ≠ 0#8 := by
  intro hzero
  have hbit := getLsbD_byteAt_shiftLeft (i := i) (k := 29 - i / 8) (m := i % 8) (by omega) (by omega)
  have hpos : 240 - 8 - 8 * (29 - i / 8) + i % 8 = i := by omega
  rw [hzero, hpos, decide_eq_true rfl, BitVec.getLsbD_zero] at hbit
  cases hbit

theorem byteAt_shiftLeft_eq_zero {i k : Nat} (hi : i < 240) (hk : k ≠ 29 - i / 8) :
    byteAt (1#240 <<< i) k = 0#8 := by
  by_cases hlt : k < 30
  case pos =>
    refine BitVec.eq_of_getLsbD_eq fun m hm => ?_
    rw [getLsbD_byteAt_shiftLeft hlt hm, BitVec.getLsbD_zero, decide_eq_false_iff_not]
    omega
  case neg => exact if_neg (by omega)

/-- Settles O21: sealing stores the CRC that the check computes; the sixteen shifts that take in the CRC are
injective. -/
theorem sealedLsfPassesCheck : Obligations.SealedLsfPassesCheck := by
  unfold Obligations.SealedLsfPassesCheck
  exact ⟨fun c l => ⟨crcOk_lsfSeal c l, lsfCovered_lsfSeal c l⟩, crcOk_iff_crc16Of_eq_zero standard_crcPoly_odd⟩

/-- Settles O22: the CRC of the 30 bytes changes by the CRC of the inverted bit alone, which is not 0. -/
theorem crcRejectsSingleBitErrors : Obligations.CrcRejectsSingleBitErrors := by
  unfold Obligations.CrcRejectsSingleBitErrors
  intro l i hi hok
  rw [crcOk_iff_crc16Of_eq_zero standard_crcPoly_odd] at hok
  rw [← Bool.not_eq_true, crcOk_iff_crc16Of_eq_zero standard_crcPoly_odd, crc16Of_xor, hok, BitVec.zero_xor,
    bytesOfSeq_lsf]
  exact foldl_crcByte_ne_zero standard_crcPoly_odd List.nodup_range (j := 29 - i / 8)
    (List.mem_range.mpr (by omega)) (byteAt_shiftLeft_ne_zero hi) fun k => byteAt_shiftLeft_eq_zero hi

end Sys2Proof.Machine
end

section
/-! ### LICH fragments and reassembly buffers (44_lsf_lich.md R367 to R380), and the commands of unit LSF

A stored fragment replaces the five bytes of its position and no other, and marks the position as covered. So a buffer
fed with fragments of one LSF agrees with it in every covered position. -/

namespace Sys2Proof.Machine

/-! #### Fragments (R370, R371) -/

/-- R370. -/
theorem fragmentPos_getFragment (l : Lsf) (n : BitVec 3) : fragmentPos (getFragment l n) = n := by
  rw [fragmentPos, getFragment, BitVec.extractLsb'_append_eq_of_le (by decide)]
  exact BitVec.extractLsb'_append_eq_right

theorem getLsbD_lsfSlice (l : Lsf) (n : Nat) {i : Nat} (hi : i < 40) :
    (lsfSlice l n).getLsbD i = l.getLsbD (200 - 40 * n + i) := by
  rw [lsfSlice, BitVec.getLsbD_setWidth, BitVec.getLsbD_ushiftRight, decide_eq_true hi, Bool.true_and]

theorem byteAt_getFragment (l : Lsf) {n : BitVec 3} (hn : n.toNat ≤ 5) {j : Nat} (hj : j < 5) :
    byteAt (getFragment l n) j = byteAt l (5 * n.toNat + j) := by
  refine BitVec.eq_of_getLsbD_eq fun m hm => ?_
  have hpos : 200 - 40 * n.toNat + (48 - 8 - 8 * j + m - 5 - 3) = 240 - 8 - 8 * (5 * n.toNat + j) + m := by omega
  rw [getLsbD_byteAt _ (by omega) hm, getLsbD_byteAt _ (by omega) hm, getFragment, BitVec.getLsbD_append,
    if_neg (by omega), BitVec.getLsbD_append, if_neg (by omega), getLsbD_lsfSlice _ _ (by omega), hpos]

/-- R371: the position in the top three bits of the last byte. -/
theorem byteAt_getFragment_last (l : Lsf) (n : BitVec 3) :
    byteAt (getFragment l n) 5 = BitVec.ofNat 8 (n.toNat * 32) := by
  have hlast : byteAt (getFragment l n) 5 = n ++ 0#5 := by
    refine BitVec.eq_of_getLsbD_eq fun m hm => ?_
    rw [getLsbD_byteAt _ (by omega) hm, getFragment, BitVec.append_assoc]
    simp only [BitVec.getLsbD_cast, BitVec.getLsbD_append (x := lsfSlice l n.toNat), Nat.sub_self, Nat.zero_add]
    exact if_pos hm
  have hnum : ∀ p : BitVec 3, p ++ 0#5 = BitVec.ofNat 8 (p.toNat * 32) := by decide
  rw [hlast, hnum]

theorem bytesOfSeq_getFragment (l : Lsf) {n : BitVec 3} (hn : n.toNat ≤ 5) :
    bytesOfSeq (getFragment l n) = fragmentBytes l n.toNat := by
  have hslice : (List.range 5).map (byteAt (getFragment l n)) =
      (List.range 5).map fun i => byteAt l (5 * n.toNat + i) :=
    List.map_congr_left fun j hj => byteAt_getFragment l hn (List.mem_range.mp hj)
  rw [bytesOfSeq_eq_map_byteAt (k := 6), List.range_succ, List.map_append, List.map_singleton, hslice,
    byteAt_getFragment_last, fragmentBytes]

/-! #### Storing a fragment (R367) -/

theorem getLsbD_setFragment_lsf (buf : LsfBuffer) (f : Fragment) {n : Nat} (hn : n ≤ 5) {i : Nat} (hi : i < 240) :
    (setFragment buf f n).lsf.getLsbD i =
      if 200 - 40 * n ≤ i ∧ i < 240 - 40 * n then f.getLsbD (8 + (i - (200 - 40 * n))) else buf.lsf.getLsbD i := by
  simp only [setFragment, BitVec.getLsbD_or, BitVec.getLsbD_and, BitVec.getLsbD_not, BitVec.getLsbD_shiftLeft,
    BitVec.getLsbD_setWidth, BitVec.getLsbD_extractLsb', BitVec.getLsbD_allOnes, decide_eq_true hi, Bool.true_and]
  split
  case isTrue hin =>
    have hge : ¬i < 200 - 40 * n := by omega
    have hlt : i - (200 - 40 * n) < 40 := by omega
    have hwide : i - (200 - 40 * n) < 240 := by omega
    simp only [hge, hlt, hwide, decide_true, decide_false, Bool.not_true, Bool.not_false, Bool.true_and,
      Bool.and_false, Bool.false_or]
  case isFalse hout =>
    obtain hlow | hhigh : i < 200 - 40 * n ∨ ¬i - (200 - 40 * n) < 40 := by omega
    · simp only [hlow, decide_true, Bool.not_true, Bool.false_and, Bool.not_false, Bool.and_true, Bool.or_false]
    · simp only [hhigh, decide_false, Bool.false_and, Bool.and_false, Bool.not_false, Bool.and_true, Bool.or_false]

theorem byteAt_setFragment (buf : LsfBuffer) (f : Fragment) {n : Nat} (hn : n ≤ 5) {j : Nat} (hj : j < 30) :
    byteAt (setFragment buf f n).lsf j = if j / 5 = n then byteAt f (j % 5) else byteAt buf.lsf j := by
  refine BitVec.eq_of_getLsbD_eq fun m hm => ?_
  rw [getLsbD_byteAt _ (by omega) hm, getLsbD_setFragment_lsf _ _ hn (by omega)]
  split
  case isTrue hin =>
    have hpos : 8 + (240 - 8 - 8 * j + m - (200 - 40 * n)) = 48 - 8 - 8 * (j % 5) + m := by omega
    rw [if_pos (by omega), getLsbD_byteAt _ (by omega) hm, hpos]
  case isFalse hout => rw [if_neg (by omega), getLsbD_byteAt _ (by omega) hm]

theorem getLsbD_setFragment_cov (buf : LsfBuffer) (f : Fragment) {n : Nat} (hn : n ≤ 5) (k : Nat) :
    (setFragment buf f n).cov.getLsbD k = (decide (k = n) || buf.cov.getLsbD k) := by
  rw [setFragment, BitVec.getLsbD_or, ← BitVec.twoPow_eq, BitVec.getLsbD_twoPow, Bool.or_comm,
    decide_eq_true (Nat.lt_succ_of_le hn), Bool.true_and, decide_eq_decide.mpr eq_comm]

/-! #### Feeding coded fragments (R372, R373, R379) -/

theorem feedLich_of_golayFail {c : Codec} {b : Lich} {f : Fragment} {okv : BitVec 4}
    (h : lichDecode c b = (f, okv)) (hok : okv ≠ 0b1111#4) (buf : LsfBuffer) :
    feedLich c buf b = (buf, .golayFail) := by
  rw [feedLich, h]
  exact if_pos hok

theorem feedLich_of_badPos {c : Codec} {b : Lich} {f : Fragment} (h : lichDecode c b = (f, 0b1111#4))
    (hpos : 5 < (fragmentPos f).toNat) (buf : LsfBuffer) : feedLich c buf b = (buf, .badPos) := by
  rw [feedLich, h]
  exact if_pos hpos

theorem feedLich_of_stored {c : Codec} {b : Lich} {f : Fragment} (h : lichDecode c b = (f, 0b1111#4))
    (hpos : (fragmentPos f).toNat ≤ 5) (buf : LsfBuffer) :
    feedLich c buf b = (setFragment buf f (fragmentPos f).toNat, .stored (fragmentPos f).toNat) := by
  rw [feedLich, h]
  exact if_neg (Nat.not_lt_of_le hpos)

/-- A codeword decodes to its data. -/
theorem golayDecode_golayEncode (d : BitVec 12) :
    golayDecode Codec.standard.golayPoly (golayEncode Codec.standard.golayPoly d) = (d, true) :=
  golayDecode_of_within (by rw [BitVec.xor_self]; decide)

theorem lichDecode_append (c : Codec) (w0 w1 w2 w3 : BitVec 24) :
    lichDecode c (w0 ++ w1 ++ w2 ++ w3) =
      ((golayDecode c.golayPoly w0).1 ++ (golayDecode c.golayPoly w1).1 ++ (golayDecode c.golayPoly w2).1 ++
          (golayDecode c.golayPoly w3).1,
        BitVec.ofBool (golayDecode c.golayPoly w3).2 ++ BitVec.ofBool (golayDecode c.golayPoly w2).2 ++
          BitVec.ofBool (golayDecode c.golayPoly w1).2 ++ BitVec.ofBool (golayDecode c.golayPoly w0).2) := by
  have h0 : (w0 ++ w1 ++ w2 ++ w3).extractLsb' 72 24 = w0 := by
    rw [BitVec.extractLsb'_append_eq_of_le (by decide), BitVec.extractLsb'_append_eq_of_le (by decide)]
    exact BitVec.extractLsb'_append_eq_left
  have h1 : (w0 ++ w1 ++ w2 ++ w3).extractLsb' 48 24 = w1 := by
    rw [BitVec.extractLsb'_append_eq_of_le (by decide), BitVec.extractLsb'_append_eq_of_le (by decide)]
    exact BitVec.extractLsb'_append_eq_right
  have h2 : (w0 ++ w1 ++ w2 ++ w3).extractLsb' 24 24 = w2 := by
    rw [BitVec.extractLsb'_append_eq_of_le (by decide)]
    exact BitVec.extractLsb'_append_eq_right
  have h3 : (w0 ++ w1 ++ w2 ++ w3).extractLsb' 0 24 = w3 := BitVec.extractLsb'_append_eq_right
  rw [lichDecode, h0, h1, h2, h3]

/-- Without errors the fragment comes back, and all four codewords decode. -/
theorem lichDecode_lichEncode (f : Fragment) :
    lichDecode Codec.standard (lichEncode Codec.standard f) = (f, 0b1111#4) := by
  have hparts : f.extractLsb' 36 12 ++ f.extractLsb' 24 12 ++ f.extractLsb' 12 12 ++ f.extractLsb' 0 12 = f := by
    rw [BitVec.extractLsb'_append_extractLsb'_eq_extractLsb' (by decide : 36 = 24 + 12),
      BitVec.extractLsb'_append_extractLsb'_eq_extractLsb' (by decide : 24 = 12 + 12)]
    exact BitVec.extractLsb'_append_extractLsb'
  simp only [lichEncode, lichDecode_append, golayDecode_golayEncode, hparts]
  rfl

theorem feedLich_lichEncode_getFragment (l : Lsf) {n : BitVec 3} (hn : n.toNat ≤ 5) (buf : LsfBuffer) :
    feedLich Codec.standard buf (lichEncode Codec.standard (getFragment l n)) =
      (setFragment buf (getFragment l n) n.toNat, .stored n.toNat) := by
  have h := feedLich_of_stored (lichDecode_lichEncode (getFragment l n)) (by rwa [fragmentPos_getFragment]) buf
  rwa [fragmentPos_getFragment] at h

/-- Settles O24: a fragment's bytes are the LSF's slice and the position; storing one replaces its slice and sets its
coverage bit. -/
theorem fragmentFeed : Obligations.FragmentFeed := by
  unfold Obligations.FragmentFeed
  refine ⟨fun l n hn => bytesOfSeq_getFragment l hn, fun c buf b f okv h => ⟨fun hok => ?failed, ?bad, ?stored⟩⟩
  case failed => exact feedLich_of_golayFail h hok buf
  case bad =>
    rintro rfl hpos
    exact feedLich_of_badPos h hpos buf
  case stored =>
    rintro rfl hpos
    exact ⟨_, feedLich_of_stored h hpos buf, fun j hj => byteAt_setFragment buf f hpos hj,
      fun k _ => getLsbD_setFragment_cov buf f hpos k⟩

/-! #### Reassembly (R380) -/

/-- The buffer after the encoded fragments of `l` at these positions, the first one fed first. -/
def feedFragments (l : Lsf) (order : List (BitVec 3)) (buf : LsfBuffer) : LsfBuffer :=
  order.foldl (fun buf n => (feedLich Codec.standard buf (lichEncode Codec.standard (getFragment l n))).1) buf

theorem feedFragments_cons (l : Lsf) {n : BitVec 3} (hn : n.toNat ≤ 5) (order : List (BitVec 3)) (buf : LsfBuffer) :
    feedFragments l (n :: order) buf = feedFragments l order (setFragment buf (getFragment l n) n.toNat) := by
  rw [feedFragments, List.foldl_cons, feedLich_lichEncode_getFragment l hn, feedFragments]

/-- The buffer holds `l`'s bytes in every position it covers. -/
def agreesWith (l : Lsf) (buf : LsfBuffer) : Prop :=
  ∀ j, j < 30 → buf.cov.getLsbD (j / 5) = true → byteAt buf.lsf j = byteAt l j

theorem agreesWith_empty (l : Lsf) : agreesWith l .empty := fun j _ hcov => by
  rw [LsfBuffer.empty, BitVec.getLsbD_zero] at hcov
  cases hcov

theorem agreesWith_setFragment {l : Lsf} {buf : LsfBuffer} (h : agreesWith l buf) {n : BitVec 3}
    (hn : n.toNat ≤ 5) : agreesWith l (setFragment buf (getFragment l n) n.toNat) := by
  intro j hj hcov
  rw [byteAt_setFragment _ _ hn hj]
  split
  case isTrue hpos =>
    rw [byteAt_getFragment l hn (Nat.mod_lt _ (by decide)), ← hpos, Nat.div_add_mod]
  case isFalse hpos =>
    rw [getLsbD_setFragment_cov _ _ hn, decide_eq_false hpos, Bool.false_or] at hcov
    exact h j hj hcov

theorem agreesWith_feedFragments {l : Lsf} {order : List (BitVec 3)} (hle : ∀ n ∈ order, n.toNat ≤ 5)
    {buf : LsfBuffer} (h : agreesWith l buf) : agreesWith l (feedFragments l order buf) := by
  induction order generalizing buf with
  | nil => exact h
  | cons n order ih =>
    obtain ⟨hn, hrest⟩ := List.forall_mem_cons.mp hle
    rw [feedFragments_cons l hn]
    exact ih hrest (agreesWith_setFragment h hn)

/-- Coverage bits are set by their fragment and never cleared. -/
theorem cov_feedFragments {l : Lsf} {order : List (BitVec 3)} (hle : ∀ n ∈ order, n.toNat ≤ 5) {buf : LsfBuffer}
    {k : Nat} (hk : k < 6) (h : buf.cov.getLsbD k = true ∨ BitVec.ofNat 3 k ∈ order) :
    (feedFragments l order buf).cov.getLsbD k = true := by
  induction order generalizing buf with
  | nil => exact h.resolve_right List.not_mem_nil
  | cons n order ih =>
    obtain ⟨hn, hrest⟩ := List.forall_mem_cons.mp hle
    rw [feedFragments_cons l hn]
    refine ih hrest ?_
    rw [getLsbD_setFragment_cov _ _ hn, Bool.or_eq_true, decide_eq_true_eq]
    obtain hcov | hmem := h
    · exact .inl (.inr hcov)
    · obtain rfl | hmem := List.mem_cons.mp hmem
      · exact .inl (.inl (by rw [BitVec.toNat_ofNat]; omega))
      · exact .inr hmem

/-- A buffer that covers every position and agrees with `l` holds `l`. -/
theorem eq_of_agreesWith {l : Lsf} {buf : LsfBuffer} (h : agreesWith l buf)
    (hcov : ∀ k, k < 6 → buf.cov.getLsbD k = true) : buf = setWhole l := by
  have hlsf : buf.lsf = l := eq_of_byteAt_eq (k := 30) fun j hj => h j hj (hcov _ (by omega))
  have hall : buf.cov = BitVec.allOnes 6 := BitVec.eq_of_getLsbD_eq fun k hk => by
    rw [hcov k hk, BitVec.getLsbD_allOnes, decide_eq_true hk]
  obtain ⟨lsf, cov⟩ := buf
  dsimp only at hlsf hall
  rw [hlsf, hall]
  rfl

/-- Settles O25: the fed buffer agrees with the LSF where it is covered, and it is covered everywhere. -/
theorem lsfReconstruction : Obligations.LsfReconstruction := by
  unfold Obligations.LsfReconstruction
  intro l order hok hle hall
  have hwhole : feedFragments l order .empty = setWhole l :=
    eq_of_agreesWith (agreesWith_feedFragments hle (agreesWith_empty l)) fun k hk =>
      cov_feedFragments hle hk (.inr (hall k (Nat.le_of_lt_succ hk)))
  rw [feedFragments] at hwhole
  rw [hwhole, isValid_setWhole]
  exact ⟨hok, rfl⟩

/-! #### The commands -/

/-- R365. -/
theorem exec_crc16 (n : BitVec 10) (s : State) :
    exec (.crc16 n) s =
      .next (if 512 < n.toNat then raise .badOp s
        else putRes0 ((crc16Of s.cfg.codec (memRead spScrIn 0 n.toNat s)).setWidth 32) s) := rfl

/-- R377. -/
theorem exec_lenc (s : State) :
    exec .lenc s =
      .next (putScrOut (lichEncode s.cfg.codec (seqOfBytes 48 (memRead spScrIn 0 6 s))) s) := rfl

/-- R378. -/
theorem exec_ldec (s : State) (r : Fragment × BitVec 4)
    (hr : r = lichDecode s.cfg.codec (seqOfBytes 96 (memRead spScrIn 0 12 s))) :
    exec .ldec s =
      .next (putRes (r.2.setWidth 32) (if r.2 = 0b1111#4 then 1#32 else 0#32) (putScrOut r.1 s)) := by
  rw [hr]; rfl

/-- Settles O23: CRC16 is a `putRes0` or a refusal, LENC a `putScrOut`, LDEC a `putRes` after a `putScrOut`. -/
theorem crcAndLichCommands : Obligations.CrcAndLichCommands := by
  unfold Obligations.CrcAndLichCommands
  refine fun s => ⟨fun n hn => ?crc, fun n hn => ?refused, exec_effect_of_putScrOut (exec_lenc s), ?ldec⟩
  case crc =>
    rw [exec_crc16, if_neg (Nat.not_lt_of_le hn)]
    rfl
  case refused => rw [exec_crc16, if_pos hn]
  case ldec => exact ⟨_, exec_ldec s _ rfl, rfl, putScrOut_storesBytes _ s⟩

end Sys2Proof.Machine
end

section
/-! ### The receive sequencer (45_rx_sequencer.md, 47_serial_engine.md R500)

What a tagged frame does is written as an update of the receive unit, `withRx`, around errors, events and pushes,
which neither read nor change that unit; each path of the sequencer has one lemma that gives its whole next state in
this form. -/

namespace Sys2Proof.Machine

/-! #### An update of the receive unit alone -/

/-- `s` with the receive unit `u`. -/
def withRx (u : RxUnit) (s : State) : State := { s with rx := u }

@[simp] theorem withRx_cfg (u : RxUnit) (s : State) : (withRx u s).cfg = s.cfg := rfl

@[simp] theorem withRx_rx (u : RxUnit) (s : State) : (withRx u s).rx = u := rfl

@[simp] theorem withRx_ctrl (u : RxUnit) (s : State) : (withRx u s).ctrl = s.ctrl := rfl

@[simp] theorem withRx_withRx (u v : RxUnit) (s : State) : withRx u (withRx v s) = withRx u s := rfl

theorem emit_withRx (ev : Event) (u : RxUnit) (s : State) : emit ev (withRx u s) = withRx u (emit ev s) := by
  rw [emit, emit, apply_ite (withRx u)]
  rfl

theorem raise_withRx (k : ErrCode) (u : RxUnit) (s : State) : raise k (withRx u s) = withRx u (raise k s) := by
  rw [raise, raise, apply_ite (withRx u), ← emit_withRx]
  rfl

theorem pushPlq_withRx (r : PayloadRecord) (u : RxUnit) (s : State) :
    pushPlq r (withRx u s) = withRx u (pushPlq r s) := by
  rw [pushPlq, pushPlq, apply_ite (withRx u), ← raise_withRx]
  rfl

/-! #### Events and payload records -/

theorem emit_of_lt {ev : Event} {s : State} (h : s.evq.length < s.cfg.evqCap) :
    emit ev s = { s with evq := s.evq ++ [ev] } := if_pos h

theorem pushPlq_emit_of_lt {ev : Event} {r : PayloadRecord} {s : State} (hevq : s.evq.length < s.cfg.evqCap)
    (hplq : s.plq.length < s.cfg.plqCap) :
    pushPlq r (emit ev s) = { s with evq := s.evq ++ [ev], plq := s.plq ++ [r] } := by
  rw [emit_of_lt hevq]
  exact if_pos hplq

/-- A push seen from an earlier state with the same queue. -/
theorem pushPlq_eq {s t : State} (hplq : t.plq = s.plq) (hcfg : t.cfg = s.cfg) (r : PayloadRecord) :
    pushPlq r t = if s.plq.length < s.cfg.plqCap then { t with plq := s.plq ++ [r] } else raise .plqOvf t := by
  rw [← hplq, ← hcfg, pushPlq]

/-! #### The RSSI report and the sync check (R401, R402) -/

@[simp] theorem reportRssi_cfg (has : Bool) (rssi : BitVec 16) (s : State) : (reportRssi has rssi s).cfg = s.cfg := by
  cases has with
  | false => rfl
  | true => exact emit_cfg _ s

@[simp] theorem reportRssi_rx (has : Bool) (rssi : BitVec 16) (s : State) : (reportRssi has rssi s).rx = s.rx := by
  cases has with
  | false => rfl
  | true => exact emit_rx _ s

@[simp] theorem reportRssi_ctrl (has : Bool) (rssi : BitVec 16) (s : State) :
    (reportRssi has rssi s).ctrl = s.ctrl := by
  cases has with
  | false => rfl
  | true => exact emit_ctrl _ s

@[simp] theorem reportRssi_plq (has : Bool) (rssi : BitVec 16) (s : State) : (reportRssi has rssi s).plq = s.plq := by
  cases has with
  | false => rfl
  | true => exact emit_plq _ s

theorem syncFails_iff (want : BitVec 16) (f : RfFrame) (s : State) :
    syncFails want f s = true ↔ checkSync s = true ∧ syncWord f ≠ want := by
  rw [syncFails, Bool.and_eq_true, decide_eq_true_eq]

theorem not_syncFails {want : BitVec 16} {f : RfFrame} {s : State} (h : checkSync s = false ∨ syncWord f = want) :
    ¬syncFails want f s = true := by
  rw [syncFails_iff]
  rintro ⟨hcheck, hword⟩
  exact h.elim (fun hoff => absurd hcheck (by rw [hoff]; decide)) hword

theorem inCall_iff (st : RxState) : inCall st = true ↔ st = .audio ∨ st = .audioData ∨ st = .data := by
  cases st <;> decide

theorem inCall_eq_false_iff (st : RxState) : inCall st = false ↔ st = .listening ∨ st = .lateEntry := by
  cases st <;> decide

/-! #### Which path a tagged frame takes (R425) -/

section
variable {f : RfFrame} {s : State} (has : Bool) (rssi : BitVec 16)

theorem doTagHeader_of_syncFails (h : syncFails s.cfg.codec.syncLsf f s = true) :
    doTagHeader f has rssi s = raise .sync s := if_pos h

theorem doTagData_of_syncFails (h : syncFails s.cfg.codec.syncStream f s = true) :
    doTagData f has rssi s = raise .sync s := if_pos h

/-- R423: a HEADER in a call is ignored but for its RSSI. -/
theorem doTagHeader_inCall (hsync : ¬syncFails s.cfg.codec.syncLsf f s = true) (hcall : inCall s.rx.state = true) :
    doTagHeader f has rssi s = reportRssi has rssi s := by
  rw [doTagHeader, if_neg hsync]
  exact if_pos (by rwa [reportRssi_rx])

theorem doTagHeader_outsideCall (hsync : ¬syncFails s.cfg.codec.syncLsf f s = true)
    (hout : inCall s.rx.state = false) : doTagHeader f has rssi s = headerPath f (reportRssi has rssi s) := by
  rw [doTagHeader, if_neg hsync]
  exact if_neg (by rw [reportRssi_rx, hout]; decide)

theorem doTagData_inCall (hsync : ¬syncFails s.cfg.codec.syncStream f s = true) (hcall : inCall s.rx.state = true) :
    doTagData f has rssi s = callFrame f true (reportRssi has rssi s) := by
  rw [doTagData, if_neg hsync]
  exact if_pos (by rwa [reportRssi_rx])

theorem doTagData_outsideCall (hsync : ¬syncFails s.cfg.codec.syncStream f s = true)
    (hout : inCall s.rx.state = false) : doTagData f has rssi s = latePath f (reportRssi has rssi s) := by
  rw [doTagData, if_neg hsync]
  exact if_neg (by rw [reportRssi_rx, hout]; decide)

end

/-! #### Tagged-frame records and instructions (R220, R425) -/

theorem decodeTag_eq_ok_iff (e : TaggedFrame) (i : Instr) :
    decodeTag e = .ok i ↔
      (e.tag = 0#3 ∧ i = .tagHeader e.hasFrame e.frame e.hasRssi e.rssi) ∨
      (e.tag = 1#3 ∧ i = .tagData e.hasFrame e.frame e.hasRssi e.rssi) ∨
      (e.tag = 2#3 ∧ i = .tagData2 e.hasFrame e.frame e.hasRssi e.rssi) ∨
      (e.tag = 3#3 ∧ i = .tagLost e.hasFrame e.frame e.hasRssi e.rssi) ∨
      (e.tag = 4#3 ∧ i = .tagEot e.hasFrame e.frame e.hasRssi e.rssi) := by
  have htags : ∀ t : BitVec 3, t = 0#3 ∨ t = 1#3 ∨ t = 2#3 ∨ t = 3#3 ∨ t = 4#3 ∨ t = 5#3 ∨ t = 6#3 ∨ t = 7#3 := by
    decide
  obtain ⟨tag, hf, f, hr, r⟩ := e
  obtain rfl | rfl | rfl | rfl | rfl | rfl | rfl | rfl := htags tag <;>
    simp [decodeTag, tagTable, List.lookup, eq_comm]

/-- R425: the instruction of a record processes the record. -/
theorem exec_of_decodeTag {e : TaggedFrame} {i : Instr} (h : decodeTag e = .ok i) (s : State) :
    exec i s = .next (rxProcess e s) := by
  obtain ⟨ht, rfl⟩ | ⟨ht, rfl⟩ | ⟨ht, rfl⟩ | ⟨ht, rfl⟩ | ⟨ht, rfl⟩ := (decodeTag_eq_ok_iff e i).mp h
  all_goals rw [rxProcess, ht]; rfl

/-- R220: the kinds 0 to 4 are those of an instruction. -/
theorem exists_decodeTag {e : TaggedFrame} (h : e.tag.toNat ≤ 4) : ∃ i, decodeTag e = .ok i := by
  have htags : ∀ t : BitVec 3, t.toNat ≤ 4 → t = 0#3 ∨ t = 1#3 ∨ t = 2#3 ∨ t = 3#3 ∨ t = 4#3 := by decide
  simp only [decodeTag_eq_ok_iff]
  obtain ht | ht | ht | ht | ht := htags e.tag h
  · exact ⟨_, .inl ⟨ht, rfl⟩⟩
  · exact ⟨_, .inr (.inl ⟨ht, rfl⟩)⟩
  · exact ⟨_, .inr (.inr (.inl ⟨ht, rfl⟩))⟩
  · exact ⟨_, .inr (.inr (.inr (.inl ⟨ht, rfl⟩)))⟩
  · exact ⟨_, .inr (.inr (.inr (.inr ⟨ht, rfl⟩)))⟩

/-! #### Phase 3 of a tick (R400, R500) -/

theorem step_of_tick {s : State} {dt : Nat} {bytes : List Byte} {ok : Bool} {rest : List EnvStep}
    (h : s.inputs = .tick dt bytes ok :: rest) :
    step s = .next (timerActions ok (txDrain (rxDrain
      (parseBytes bytes (advanceTimers dt { s with inputs := rest, serialOut := [] }))))) := by
  rw [step, fetch, h]
  rfl

theorem rxDrain_of_rxq_nil {s : State} (h : s.rxq = []) : rxDrain s = s := by
  rw [rxDrain, h]
  rfl

/-- The first record's instruction runs with the record taken off, leaves the others queued, and these are drained
from the state it leaves. -/
theorem rxDrain_of_rxq_cons {s : State} {e : TaggedFrame} {more : List TaggedFrame} {i : Instr}
    (hq : s.rxq = e :: more) (hi : decode (.tag e) = .ok i) :
    ∃ t, exec i { s with rxq := more } = .next t ∧ t.rxq = more ∧ rxDrain s = rxDrain t := by
  have hrest : (rxProcess e { s with rxq := more }).rxq = more := (rxProcess_storageKept e _).rxq
  refine ⟨_, exec_of_decodeTag hi _, hrest, ?_⟩
  rw [rxDrain, rxDrain, hrest, hq, rxLoop]

/-- Settles O8: a drain is the first record's instruction and then a drain. -/
theorem stepRunsQueuedTag : Obligations.StepRunsQueuedTag := by
  unfold Obligations.StepRunsQueuedTag
  refine ⟨fun s dt bytes ok rest hin => ⟨step_of_tick hin, fun e more i hq hi => ?_⟩,
    fun s e more i hq hi => rxDrain_of_rxq_cons hq hi, fun s => rxDrain_of_rxq_nil⟩
  obtain ⟨t, hexec, hrest, hdrain⟩ := rxDrain_of_rxq_cons hq hi
  exact ⟨t, hexec, hrest, by rw [step_of_tick hin, hdrain]⟩

/-! #### The commands (R430, R431) -/

theorem seqOfBytes_pair (a b : Byte) : seqOfBytes 16 [a, b] = a ++ b := by
  refine BitVec.eq_of_toNat_eq ?_
  rw [BitVec.toNat_append, seqOfBytes, BitVec.toNat_ofNat, ← Nat.shiftLeft_add_eq_or_of_lt b.isLt, Nat.shiftLeft_eq]
  simp only [List.foldl_cons, List.foldl_nil]
  omega

/-- The record RX_INJECT builds from its operands and `SCR_IN` (R430). -/
def injectedRecord (tag : BitVec 3) (has : Bool) (s : State) : TaggedFrame :=
  ⟨tag, decide (tag ≠ 3#3), if tag = 3#3 then 0#384 else seqOfBytes 384 (memRead spScrIn 0 48 s), has,
    if has then bufByte spScrIn 48 s ++ bufByte spScrIn 49 s else 0#16⟩

theorem doRxInject_of_le {tag : BitVec 3} (h : tag.toNat ≤ 4) (has : Bool) (s : State) :
    doRxInject tag has s =
      putRes0 ((rxStateCode (rxProcess (injectedRecord tag has s) s).rx.state).setWidth 32)
        (rxProcess (injectedRecord tag has s) s) := by
  have hrssi : seqOfBytes 16 (memRead spScrIn 48 2 s) = bufByte spScrIn 48 s ++ bufByte spScrIn 49 s :=
    seqOfBytes_pair _ _
  have hframe : (if decide (tag ≠ 3#3) = true then scrInSeq 384 s else 0#384) =
      if tag = 3#3 then 0#384 else seqOfBytes 384 (memRead spScrIn 0 48 s) := by
    simp only [decide_eq_true_eq, ne_eq, ite_not]
    rfl
  rw [doRxInject, if_neg (Nat.not_lt_of_le h)]
  dsimp only
  rw [hrssi, hframe]
  rfl

theorem doRxInject_of_lt {tag : BitVec 3} (h : 4 < tag.toNat) (has : Bool) (s : State) :
    doRxInject tag has s = raise .badOp s := if_pos h

/-- Settles O32: RX_INJECT processes its record, which is to run the record's instruction. -/
theorem receiveCommands : Obligations.ReceiveCommands := by
  unfold Obligations.ReceiveCommands
  refine fun s => ⟨fun tag has => ⟨fun htag => ?runs, fun htag => ?refused⟩, rfl⟩
  case runs =>
    obtain ⟨i, hi⟩ := exists_decodeTag (e := injectedRecord tag has s) htag
    refine ⟨i, _, hi, exec_of_decodeTag hi s, ?_⟩
    show Host.Outcome.next (doRxInject tag has s) = _
    rw [doRxInject_of_le htag, putRes0]
    cases (rxProcess (injectedRecord tag has s) s).rx.state <;> rfl
  case refused => exact congrArg Host.Outcome.next (doRxInject_of_lt htag has s)

/-! #### LOST and EOT (R418 to R421) -/

/-- The receive unit after `enterListening` (R418). -/
def listeningUnit (u : RxUnit) : RxUnit := { u with state := .listening, primary := .empty, running := .empty }

theorem enterListening_eq (s : State) : enterListening s = withRx (listeningUnit s.rx) s := rfl

/-- R421. -/
theorem callEnd_eq (reason : EndReason) (s : State) :
    callEnd reason s =
      withRx (listeningUnit s.rx) (emit (.callEnd reason s.rx.state s.rx.frames s.rx.bits s.rx.errs) s) := by
  rw [callEnd, enterListening_eq, emit_rx]

theorem lostPath_inCall {s : State} (h : inCall s.rx.state = true) :
    lostPath s = withRx { listeningUnit s.rx with rejLatch := false }
      (emit (.callEnd .lost s.rx.state s.rx.frames s.rx.bits s.rx.errs) s) := by
  rw [lostPath, if_pos h, callEnd_eq]
  rfl

theorem lostPath_outsideCall {s : State} (h : inCall s.rx.state = false) :
    lostPath s = withRx { listeningUnit s.rx with rejLatch := false } s := by
  rw [lostPath, h]
  rfl

theorem eotPath_inCall {s : State} (h : inCall s.rx.state = true) :
    eotPath s = withRx (listeningUnit s.rx) (emit (.callEnd .eot s.rx.state s.rx.frames s.rx.bits s.rx.errs) s) := by
  rw [eotPath, if_pos h, callEnd_eq]

theorem eotPath_outsideCall {s : State} (h : inCall s.rx.state = false) :
    eotPath s = withRx (listeningUnit s.rx) s := by
  rw [eotPath, h]
  rfl

/-- Settles O30: the RSSI report leaves the receive unit alone, so the path's lemma gives the state. -/
theorem lostAndEotEndCalls : Obligations.LostAndEotEndCalls := by
  unfold Obligations.LostAndEotEndCalls
  intro s hf f hr r s1 rx1
  have hrx : s1.rx = s.rx := reportRssi_rx hr r s
  have hlost : exec (.tagLost hf f hr r) s = .next (lostPath s1) := rfl
  have heot : exec (.tagEot hf f hr r) s = .next (eotPath s1) := rfl
  rw [hlost, heot]
  refine ⟨fun hcall => ?inCall, fun hout => ?outside⟩
  case inCall =>
    have h : inCall s1.rx.state = true := by rw [hrx]; exact (inCall_iff _).mpr hcall
    rw [lostPath_inCall h, eotPath_inCall h, hrx]
    exact ⟨rfl, rfl⟩
  case outside =>
    have h : inCall s1.rx.state = false := by rw [hrx]; exact (inCall_eq_false_iff _).mpr hout
    rw [lostPath_outsideCall h, eotPath_outsideCall h, hrx]
    exact ⟨rfl, rfl⟩

/-! #### The frame's fields (R401, R403): the sync word is no part of them -/

section
variable {f f' : RfFrame} (h : f'.extractLsb' 0 368 = f.extractLsb' 0 368)
include h

theorem rxBody_congr (c : Codec) : rxBody c f' = rxBody c f := by rw [rxBody, rxBody, h]

theorem rxHeader_congr (c : Codec) : rxHeader c f' = rxHeader c f := by rw [rxHeader, rxHeader, rxBody_congr h]

theorem rxLich_congr (c : Codec) : rxLich c f' = rxLich c f := by rw [rxLich, rxLich, rxBody_congr h]

theorem rxData_congr (c : Codec) : rxData c f' = rxData c f := by rw [rxData, rxData, rxBody_congr h]

theorem headerPath_congr (s : State) : headerPath f' s = headerPath f s := by
  rw [headerPath, headerPath, rxHeader_congr h]

theorem pushAndFeed_congr (r : PayloadRecord) (s : State) : pushAndFeed r f' s = pushAndFeed r f s := by
  have hfeed (t : State) : runningFeed f' t = runningFeed f t := by
    rw [runningFeed, runningFeed, rxLich_congr h]
  have hfails : runningFeedFails f' s = runningFeedFails f s := by
    rw [runningFeedFails, runningFeedFails, rxLich_congr h]
  rw [pushAndFeed, pushAndFeed, hfails, hfeed, hfeed]

theorem callFrame_congr (feed : Bool) (s : State) : callFrame f' feed s = callFrame f feed s := by
  simp only [callFrame, rxData_congr h, pushAndFeed_congr h]

theorem latePath_congr (s : State) : latePath f' s = latePath f s := by
  simp only [latePath, tryStart, rxLich_congr h, callFrame_congr h]

theorem doTagHeader_congr {s : State} (hoff : checkSync s = false) (has : Bool) (rssi : BitVec 16) :
    doTagHeader f' has rssi s = doTagHeader f has rssi s := by
  cases hin : inCall s.rx.state with
  | true => rw [doTagHeader_inCall _ _ (not_syncFails (.inl hoff)) hin,
      doTagHeader_inCall _ _ (not_syncFails (.inl hoff)) hin]
  | false => rw [doTagHeader_outsideCall _ _ (not_syncFails (.inl hoff)) hin,
      doTagHeader_outsideCall _ _ (not_syncFails (.inl hoff)) hin, headerPath_congr h]

theorem doTagData_congr {s : State} (hoff : checkSync s = false) (has : Bool) (rssi : BitVec 16) :
    doTagData f' has rssi s = doTagData f has rssi s := by
  cases hin : inCall s.rx.state with
  | true => rw [doTagData_inCall _ _ (not_syncFails (.inl hoff)) hin,
      doTagData_inCall _ _ (not_syncFails (.inl hoff)) hin, callFrame_congr h]
  | false => rw [doTagData_outsideCall _ _ (not_syncFails (.inl hoff)) hin,
      doTagData_outsideCall _ _ (not_syncFails (.inl hoff)) hin, latePath_congr h]

end

/-- Settles O29: past a check that is off, a frame is read through its body alone. -/
theorem syncCheckAndIgnoredFrames : Obligations.SyncCheckAndIgnoredFrames := by
  unfold Obligations.SyncCheckAndIgnoredFrames
  refine fun s hf f hr r => ⟨fun hon hne => ?header, fun hon hne => ?data, fun hoff f' h => ?unchecked,
    fun f' => ⟨rfl, rfl⟩, rfl, fun hcall hsync => ?ignored⟩
  case header => exact congrArg Host.Outcome.next (doTagHeader_of_syncFails hr r ((syncFails_iff _ f s).mpr ⟨hon, hne⟩))
  case data => exact congrArg Host.Outcome.next (doTagData_of_syncFails hr r ((syncFails_iff _ f s).mpr ⟨hon, hne⟩))
  case unchecked =>
    exact ⟨congrArg Host.Outcome.next (doTagHeader_congr h hoff hr r),
      congrArg Host.Outcome.next (doTagData_congr h hoff hr r)⟩
  case ignored =>
    exact congrArg Host.Outcome.next
      (doTagHeader_inCall hr r (not_syncFails hsync) ((inCall_iff _).mpr hcall))

/-! #### Acceptance and rejection (R410, R413) -/

theorem acceptLsf_of_dataType_zero {l : Lsf} {s : State} (h : dataType l = 0#2) :
    acceptLsf l s = .inl .dataType := if_pos h

theorem acceptLsf_of_otherCan {l : Lsf} {s : State} (hdt : dataType l ≠ 0#2) (hen : canfEn s = true)
    (hcan : lsfCan l ≠ canfVal s) : acceptLsf l s = .inl .can := by
  rw [acceptLsf, if_neg hdt, hen, decide_eq_true hcan]
  rfl

theorem acceptLsf_of_callTarget {l : Lsf} {s : State} {st : RxState} (ht : callTarget (dataType l) = some st)
    (hcan : canfEn s = false ∨ lsfCan l = canfVal s) : acceptLsf l s = .inr st := by
  have htarget {st' : RxState} (ha : acceptLsf l s = .inr st') : st' = st :=
    Option.some.inj ((callTarget_of_acceptLsf ha).symm.trans ht)
  obtain ⟨hdt, -⟩ | ⟨-, hen, hne, -⟩ | ⟨-, ha⟩ | ⟨-, ha⟩ | ⟨-, ha⟩ := acceptLsf_cases l s
  · rw [hdt] at ht; cases ht
  · obtain hoff | heq := hcan
    · rw [hoff] at hen; cases hen
    · exact absurd heq hne
  all_goals rw [ha, htarget ha]

/-- The error that reports a rejection (R413). -/
def rejectError : RejectCause → ErrCode
  | .dataType => .rejType
  | .can => .rejCan

/-- The report of a rejection (R413). -/
def reportReject (cause : RejectCause) (l : Lsf) (s : State) : State :=
  emit (.reject cause l) (raise (rejectError cause) s)

theorem reportReject_withRx (cause : RejectCause) (l : Lsf) (u : RxUnit) (s : State) :
    reportReject cause l (withRx u s) = withRx u (reportReject cause l s) := by
  rw [reportReject, raise_withRx, emit_withRx, reportReject]

theorem rejectLsf_eq (cause : RejectCause) (l : Lsf) (s : State) :
    rejectLsf cause l s = enterListening (if s.rx.rejLatch then s
      else withRx { (reportReject cause l s).rx with rejLatch := true } (reportReject cause l s)) := by
  cases cause <;> rfl

/-- What the primary buffer held does not matter: it is emptied. -/
theorem rejectLsf_withRx (cause : RejectCause) (l : Lsf) (b : LsfBuffer) (s : State) :
    rejectLsf cause l (withRx { s.rx with primary := b } s) = rejectedState cause (rejectError cause) l s := by
  rw [rejectLsf_eq, rejectedState, reportReject_withRx, withRx_rx, withRx_rx]
  cases hlatch : s.rx.rejLatch <;> rfl

/-! #### HEADER outside a call (R410 to R414) -/

section
variable {f : RfFrame} {s : State}

theorem headerPath_of_crcFail (h : crcOk s.cfg.codec (rxHeader s.cfg.codec f) = false) :
    headerPath f s = withRx { s.rx with state := .lateEntry } (raise .crc s) := by
  rw [headerPath, h]
  dsimp only
  rw [raise_rx]
  rfl

theorem headerPath_of_crcOk (h : crcOk s.cfg.codec (rxHeader s.cfg.codec f) = true) :
    headerPath f s =
      tryStart none (withRx { s.rx with primary := setWhole (rxHeader s.cfg.codec f) } s) := if_pos h

/-- R411, R412: with a primary LSF that is accepted, a HEADER starts the call. -/
theorem tryStart_header {b : LsfBuffer} {st : RxState} (h : acceptLsf b.lsf s = .inr st) :
    tryStart none (withRx { s.rx with primary := b } s) =
      emit (.callStart st .header b.lsf) (withRx ⟨st, b, .empty, 0#32, 0#32, 0#32, false⟩ s) := by
  have haccept : acceptLsf b.lsf (withRx { s.rx with primary := b } s) = .inr st := h
  rw [tryStart, withRx_rx]
  dsimp only
  rw [haccept]
  rfl

/-- R413: with one that is rejected, no frame starts a call. -/
theorem tryStart_of_rejected (late : Option RfFrame) {b : LsfBuffer} {cause : RejectCause}
    (h : acceptLsf b.lsf s = .inl cause) :
    tryStart late (withRx { s.rx with primary := b } s) =
      rejectedState cause (rejectError cause) b.lsf s := by
  have hreject : acceptLsf b.lsf (withRx { s.rx with primary := b } s) = .inl cause := h
  rw [tryStart, withRx_rx]
  dsimp only
  rw [hreject]
  exact rejectLsf_withRx cause b.lsf b s

end

/-- Settles O26: the header path of the state after the RSSI report, whose configuration, receive unit and `CTRL` are
those before it. -/
theorem headerOutsideCall : Obligations.HeaderOutsideCall := by
  unfold Obligations.HeaderOutsideCall
  intro s hf f hr r hout hsync s1 l
  have hrx : s1.rx = s.rx := reportRssi_rx hr r s
  have hctrl : s1.ctrl = s.ctrl := reportRssi_ctrl hr r s
  have hcfg : s1.cfg = s.cfg := reportRssi_cfg hr r s
  have hl : rxHeader s1.cfg.codec f = l := by rw [hcfg]
  have hexec : exec (.tagHeader hf f hr r) s = .next (headerPath f s1) :=
    congrArg Host.Outcome.next
      (doTagHeader_outsideCall hr r (not_syncFails hsync) ((inCall_eq_false_iff _).mpr hout))
  rw [hexec]
  refine ⟨fun hcrc => ?failed, fun hcrc => ?passed⟩
  case failed =>
    rw [headerPath_of_crcFail (by rwa [hl, hcfg]), hrx]
    rfl
  case passed =>
    rw [headerPath_of_crcOk (by rwa [hl, hcfg]), hl]
    refine ⟨fun st ht hcan => ?accepted, fun hdt => ?dataType, fun hdt hen hne => ?can⟩
    case accepted =>
      have haccept : acceptLsf (setWhole l).lsf s1 = .inr st :=
        acceptLsf_of_callTarget ht (by rwa [canfEn, canfVal, hctrl])
      rw [tryStart_header haccept]
      rfl
    case dataType =>
      have hreject : acceptLsf (setWhole l).lsf s1 = .inl .dataType := acceptLsf_of_dataType_zero hdt
      rw [tryStart_of_rejected none hreject]
      rfl
    case can =>
      have hreject : acceptLsf (setWhole l).lsf s1 = .inl .can :=
        acceptLsf_of_otherCan hdt (by rwa [canfEn, hctrl]) (by rwa [canfVal, hctrl])
      rw [tryStart_of_rejected none hreject]
      rfl

/-! #### The frame of a call (R416, R422) -/

/-- The counters after a frame with `n` bit errors. -/
def countFrame (n : Nat) (u : RxUnit) : RxUnit :=
  { u with frames := satAdd32 u.frames 1, bits := satAdd32 u.bits 272, errs := satAdd32 u.errs n }

/-- The payload record of decoded data `d`, in call state `st`. -/
def frameRecord (d : BitVec 16 × Payload × Nat) (st : RxState) : PayloadRecord :=
  ⟨d.1, st, BitVec.ofNat 16 d.2.2, d.2.1⟩

/-- R422: with `EOS_END`, a frame number with the EOS flag ends the call. -/
def endOnEos (fn : BitVec 16) (s : State) : State :=
  if eosEnd s = true ∧ eosFlag s.cfg.codec fn = true then callEnd .eos s else s

theorem endOnEos_eq {s t : State} (hcfg : t.cfg = s.cfg) (hctrl : t.ctrl = s.ctrl) (fn : BitVec 16) :
    endOnEos fn t =
      if eosEnd s = true ∧ fn.getLsbD (s.cfg.codec.fnBits.val - 1) = true then callEnd .eos t else t := by
  rw [endOnEos, eosEnd, hctrl, hcfg]
  rfl

/-- R416: the call's first frame, whose LICH the primary buffer has taken. -/
theorem callFrame_first (f : RfFrame) (s : State) :
    callFrame f false s =
      endOnEos (rxData s.cfg.codec f).1 (pushPlq (frameRecord (rxData s.cfg.codec f) s.rx.state)
        (withRx (countFrame (rxData s.cfg.codec f).2.2 s.rx) s)) := by
  rw [callFrame, endOnEos]
  simp only [Bool.and_eq_true]
  rfl

/-- R416, R417: a later one, whose LICH feeds the running buffer. -/
theorem callFrame_later (f : RfFrame) (s : State) :
    callFrame f true s =
      endOnEos (rxData s.cfg.codec f).1 (pushAndFeed (frameRecord (rxData s.cfg.codec f) s.rx.state) f
        (withRx (countFrame (rxData s.cfg.codec f).2.2 s.rx) s)) := by
  rw [callFrame, endOnEos]
  simp only [Bool.and_eq_true]
  rfl

/-! #### The report of a feed (R405) -/

@[simp] theorem feedReport_cfg (r : FeedResult) (s : State) : (feedReport r s).cfg = s.cfg := by
  cases r with
  | stored n => rfl
  | golayFail => exact raise_cfg _ s
  | badPos => exact raise_cfg _ s

@[simp] theorem feedReport_rx (r : FeedResult) (s : State) : (feedReport r s).rx = s.rx := by
  cases r with
  | stored n => rfl
  | golayFail => exact raise_rx _ s
  | badPos => exact raise_rx _ s

@[simp] theorem feedReport_ctrl (r : FeedResult) (s : State) : (feedReport r s).ctrl = s.ctrl := by
  cases r with
  | stored n => rfl
  | golayFail => exact raise_ctrl _ s
  | badPos => exact raise_ctrl _ s

theorem feedReport_withRx (r : FeedResult) (u : RxUnit) (s : State) :
    feedReport r (withRx u s) = withRx u (feedReport r s) := by
  cases r with
  | stored n => rfl
  | golayFail => exact raise_withRx .golay u s
  | badPos => exact raise_withRx .lichPos u s

/-! #### A stream frame outside a call (R410 to R416) -/

section
variable {f : RfFrame} {s : State} {b : LsfBuffer} {r : FeedResult}

theorem latePath_eq (hfed : feedLich s.cfg.codec s.rx.primary (rxLich s.cfg.codec f) = (b, r)) :
    latePath f s =
      if isValid s.cfg.codec b then
        tryStart (some f) (withRx { (feedReport r s).rx with primary := b } (feedReport r s))
      else withRx { (feedReport r s).rx with primary := b, state := .lateEntry } (feedReport r s) := by
  have hreport : feedReport r { s with rx := { s.rx with primary := b } } =
      withRx { (feedReport r s).rx with primary := b } (feedReport r s) := by
    rw [feedReport_rx]
    exact feedReport_withRx r _ s
  rw [latePath, hfed]
  dsimp only
  rw [hreport, ← feedReport_cfg r s]
  rfl

/-- R411, R412, R415: with a primary LSF that is accepted, the call starts with counters 0 and the frame is decoded. -/
theorem tryStart_late {st : RxState} (h : acceptLsf b.lsf s = .inr st) :
    tryStart (some f) (withRx { s.rx with primary := b } s) =
      endOnEos (rxData s.cfg.codec f).1 (pushPlq (frameRecord (rxData s.cfg.codec f) st)
        (emit (.callStart st .lateEntry b.lsf)
          (withRx ⟨st, b, .empty, 1#32, 272#32, satAdd32 0#32 (rxData s.cfg.codec f).2.2, false⟩ s))) := by
  have haccept : acceptLsf b.lsf (withRx { s.rx with primary := b } s) = .inr st := h
  have hstart : startCall st .lateEntry b.lsf (withRx { s.rx with primary := b } s) =
      withRx ⟨st, b, .empty, 0#32, 0#32, 0#32, false⟩ (emit (.callStart st .lateEntry b.lsf) s) :=
    emit_withRx _ ⟨st, b, .empty, 0#32, 0#32, 0#32, false⟩ s
  rw [tryStart, withRx_rx]
  dsimp only
  rw [haccept]
  dsimp only
  rw [hstart, callFrame_first, withRx_cfg, emit_cfg, withRx_rx, withRx_withRx, emit_withRx]
  rfl

end

/-- Settles O27: the late-entry path of the state after the RSSI report. -/
theorem dataOutsideCall : Obligations.DataOutsideCall := by
  unfold Obligations.DataOutsideCall
  intro s hf f hr r hout hsync s1 fed s2 d
  have hcfg : s1.cfg = s.cfg := reportRssi_cfg hr r s
  have hrx : s1.rx = s.rx := reportRssi_rx hr r s
  have hs2 : s2 = feedReport fed.2 s1 := rfl
  have hcfg2 : s2.cfg = s.cfg := by rw [hs2, feedReport_cfg, hcfg]
  have hctrl2 : s2.ctrl = s.ctrl := by rw [hs2, feedReport_ctrl]; exact reportRssi_ctrl hr r s
  have hfed : feedLich s1.cfg.codec s1.rx.primary (rxLich s1.cfg.codec f) = (fed.1, fed.2) := by rw [hcfg, hrx]
  have hexec : exec (.tagData hf f hr r) s = .next (latePath f s1) :=
    congrArg Host.Outcome.next
      (doTagData_outsideCall hr r (not_syncFails hsync) ((inCall_eq_false_iff _).mpr hout))
  rw [hexec]
  refine ⟨fun hvalid => ?invalid, fun hvalid => ?valid⟩
  case invalid =>
    rw [latePath_eq hfed, hcfg, hvalid, feedReport_rx, hrx]
    rfl
  case valid =>
    have hd : rxData s2.cfg.codec f = d := by rw [hcfg2]
    rw [latePath_eq hfed, hcfg, if_pos hvalid, ← hs2]
    refine ⟨fun st ht hcan => ?accepted, fun hdt => ?dataType, fun hdt hen hne => ?can⟩
    case accepted =>
      rw [tryStart_late (acceptLsf_of_callTarget ht (by rwa [canfEn, canfVal, hctrl2])), hd]
      refine congrArg Host.Outcome.next (endOnEos_eq ?_ ?_ _)
      · rw [pushPlq_cfg, emit_cfg, withRx_cfg, hcfg2]
      · rw [pushPlq_ctrl, emit_ctrl, withRx_ctrl, hctrl2]
    case dataType =>
      rw [tryStart_of_rejected _ (acceptLsf_of_dataType_zero hdt)]
      rfl
    case can =>
      rw [tryStart_of_rejected _ (acceptLsf_of_otherCan hdt (by rwa [canfEn, hctrl2]) (by rwa [canfVal, hctrl2]))]
      rfl

/-! #### A stream frame in a call (R416, R417, R632) -/

/-- The error of a failed feed (R405). -/
def feedError : FeedResult → Option ErrCode
  | .stored _ => none
  | .golayFail => some .golay
  | .badPos => some .lichPos

section
variable {f : RfFrame} {s : State} {b : LsfBuffer} {n : Nat}

theorem runningFeed_of_stored
    (h : feedLich s.cfg.codec s.rx.running (rxLich s.cfg.codec f) = (b, .stored n)) :
    runningFeed f s = if isValid s.cfg.codec b then withRx { s.rx with running := .empty } (emit (.auxLsf b.lsf) s)
      else withRx { s.rx with running := b } s := by
  have hemit : emit (.auxLsf b.lsf) { s with rx := { s.rx with running := b } } =
      withRx { s.rx with running := b } (emit (.auxLsf b.lsf) s) := emit_withRx _ _ s
  rw [runningFeed, h]
  dsimp only [feedReport]
  rw [hemit]
  rfl

theorem runningFeed_of_failed {result : FeedResult} {k : ErrCode}
    (h : feedLich s.cfg.codec s.rx.running (rxLich s.cfg.codec f) = (s.rx.running, result))
    (hk : feedError result = some k) : runningFeed f s = raise k s := by
  rw [runningFeed, h]
  cases result with
  | stored n => cases hk
  | golayFail => cases hk; rfl
  | badPos => cases hk; rfl

theorem pushAndFeed_of_stored
    (h : feedLich s.cfg.codec s.rx.running (rxLich s.cfg.codec f) = (b, .stored n)) (r : PayloadRecord) :
    pushAndFeed r f s =
      if isValid s.cfg.codec b then withRx { s.rx with running := .empty } (emit (.auxLsf b.lsf) (pushPlq r s))
      else withRx { s.rx with running := b } (pushPlq r s) := by
  have hstored : ¬runningFeedFails f s = true := by
    rw [runningFeedFails, h]
    exact Bool.false_ne_true
  rw [pushAndFeed, if_neg fun ⟨_, hfails⟩ => hstored hfails,
    runningFeed_of_stored (by rwa [pushPlq_cfg, pushPlq_rx]), pushPlq_cfg, pushPlq_rx]

/-- Log 20: the configuration orders the two errors of one frame. -/
theorem pushAndFeed_of_failed {result : FeedResult} {k : ErrCode}
    (h : feedLich s.cfg.codec s.rx.running (rxLich s.cfg.codec f) = (s.rx.running, result))
    (hk : feedError result = some k) (r : PayloadRecord) :
    pushAndFeed r f s =
      if s.cfg.errorOrder = .asListed then pushPlq r (raise k s) else raise k (pushPlq r s) := by
  have hfails : runningFeedFails f s = true := by
    rw [runningFeedFails, h]
    cases result with
    | stored n => cases hk
    | golayFail => rfl
    | badPos => rfl
  rw [pushAndFeed, hfails, runningFeed_of_failed h hk,
    runningFeed_of_failed (s := pushPlq r s) (by rwa [pushPlq_cfg, pushPlq_rx]) hk]
  simp only [and_true]

end

/-- What a frame in a call keeps besides its counters: all but the running buffer. -/
theorem pushAndFeed_keeps (r : PayloadRecord) (f : RfFrame) (s : State) :
    (pushAndFeed r f s).cfg = s.cfg ∧ (pushAndFeed r f s).ctrl = s.ctrl ∧
      ∃ b, (pushAndFeed r f s).rx = { s.rx with running := b } := by
  have hfailed {result : FeedResult} {k : ErrCode} (hk : feedError result = some k)
      (h : feedLich s.cfg.codec s.rx.running (rxLich s.cfg.codec f) = (s.rx.running, result)) :
      (pushAndFeed r f s).cfg = s.cfg ∧ (pushAndFeed r f s).ctrl = s.ctrl ∧
        ∃ b, (pushAndFeed r f s).rx = { s.rx with running := b } := by
    rw [pushAndFeed_of_failed h hk]
    split
    · exact ⟨by simp, by simp, s.rx.running, by simp⟩
    · exact ⟨by simp, by simp, s.rx.running, by simp⟩
  obtain ⟨-, h⟩ | ⟨-, -, h⟩ | ⟨-, -, h⟩ := feedLich_cases s.cfg.codec s.rx.running (rxLich s.cfg.codec f)
  · exact hfailed rfl h
  · exact hfailed rfl h
  · rw [pushAndFeed_of_stored h]
    split
    · exact ⟨by simp, by simp, _, rfl⟩
    · exact ⟨by simp, by simp, _, rfl⟩

/-- R421 after a frame whose counters are those of `u`. -/
theorem callEnd_of_rx {s : State} {u : RxUnit} {b : LsfBuffer} (h : s.rx = { u with running := b })
    (reason : EndReason) :
    callEnd reason s = withRx (listeningUnit u) (emit (.callEnd reason u.state u.frames u.bits u.errs) s) := by
  rw [callEnd_eq, h]
  rfl

/-- Settles O28: the frame counted, then queued and fed in the configured order, then the call ended where its frame
number says so. -/
theorem dataInCall : Obligations.DataInCall := by
  unfold Obligations.DataInCall
  intro s hf f hr r hcall hsync s1 d fed rx1 queue counted fedState
  have hcfg : counted.cfg = s.cfg := reportRssi_cfg hr r s
  have hctrl : counted.ctrl = s.ctrl := reportRssi_ctrl hr r s
  have hplq : counted.plq = s.plq := reportRssi_plq hr r s
  have hrx : counted.rx = rx1 := rfl
  have hexec : exec (.tagData hf f hr r) s =
      .next (endOnEos d.1 (pushAndFeed (frameRecord d s.rx.state) f counted)) := by
    have hd : rxData s1.cfg.codec f = d := by rw [show s1.cfg = s.cfg from hcfg]
    have hlater := callFrame_later f s1
    rw [hd, show s1.rx = s.rx from reportRssi_rx hr r s] at hlater
    exact congrArg Host.Outcome.next
      ((doTagData_inCall hr r (not_syncFails hsync) ((inCall_iff _).mpr hcall)).trans hlater)
  have hqueue {u : State} (hu : u.plq = s.plq) (hu' : u.cfg = s.cfg) :
      pushPlq (frameRecord d s.rx.state) u = queue u := pushPlq_eq hu hu' _
  have hfeed : feedLich counted.cfg.codec counted.rx.running (rxLich counted.cfg.codec f) = fed := by rw [hcfg]
  have hcases : fed = (s.rx.running, .golayFail) ∨ fed = (s.rx.running, .badPos) ∨ ∃ b n, fed = (b, .stored n) := by
    obtain ⟨-, h⟩ | ⟨-, -, h⟩ | ⟨-, -, h⟩ := feedLich_cases s.cfg.codec s.rx.running (rxLich s.cfg.codec f)
    · exact .inl h
    · exact .inr (.inl h)
    · exact .inr (.inr ⟨_, _, h⟩)
  clear_value fed
  have hfailed {result : FeedResult} {k : ErrCode} (hk : feedError result = some k)
      (h : fed = (s.rx.running, result)) : pushAndFeed (frameRecord d s.rx.state) f counted =
        if s.cfg.errorOrder = .asListed then queue (raise k counted) else raise k (queue counted) := by
    rw [pushAndFeed_of_failed (hfeed.trans h) hk, hcfg, hqueue hplq hcfg,
      hqueue (by rw [raise_plq, hplq]) (by rw [raise_cfg, hcfg])]
  have hfed : pushAndFeed (frameRecord d s.rx.state) f counted = fedState := by
    obtain h | h | ⟨b, n, h⟩ := hcases
    · rw [hfailed rfl h]; subst h; rfl
    · rw [hfailed rfl h]; subst h; rfl
    · rw [pushAndFeed_of_stored (hfeed.trans h), hqueue hplq hcfg, hcfg]; subst h; rfl
  obtain ⟨hcfg', hctrl', b, hrx'⟩ := pushAndFeed_keeps (frameRecord d s.rx.state) f counted
  rw [hfed] at hexec hcfg' hctrl' hrx'
  rw [hexec, endOnEos_eq (hcfg'.trans hcfg) (hctrl'.trans hctrl), callEnd_of_rx hrx']
  rfl

/-! #### A stream frame as the transmitter builds it (R403, R426) -/

section
variable (l : Lsf) (n : BitVec 3) (fn : BitVec 16) (p : Payload)

theorem syncWord_txStream (c : Codec) : syncWord (txStream c l n fn p) = c.syncStream :=
  BitVec.extractLsb'_append_eq_left

theorem rxBody_txStream : rxBody Codec.standard (txStream Codec.standard l n fn p) =
    streamBody Codec.standard l n fn p := by
  have hbody : (txStream Codec.standard l n fn p).extractLsb' 0 368 =
      txBody Codec.standard (streamBody Codec.standard l n fn p) := BitVec.extractLsb'_append_eq_right
  rw [rxBody, hbody, txBody, scramble_scramble, deinterleave_interleave perm_standard_interleaveP]

theorem rxLich_txStream : rxLich Codec.standard (txStream Codec.standard l n fn p) =
    lichEncode Codec.standard (getFragment l n) := by
  rw [rxLich, rxBody_txStream]
  exact BitVec.extractLsb'_append_eq_left

theorem rxData_txStream : rxData Codec.standard (txStream Codec.standard l n fn p) = (fn, p, 0) := by
  have hcoded : (streamBody Codec.standard l n fn p).extractLsb' 0 272 = encodeData Codec.standard (fn ++ p) :=
    BitVec.extractLsb'_append_eq_right
  have hfn : (fn ++ p).extractLsb' 128 16 = fn := BitVec.extractLsb'_append_eq_left
  have hp : (fn ++ p).extractLsb' 0 128 = p := BitVec.extractLsb'_append_eq_right
  obtain ⟨-, hdecode⟩ := noiseFreeBlocksDecode
  rw [rxData, rxBody_txStream, hcoded, hdecode, hfn, hp]

end

/-! #### Fewer than six fragments leave the primary buffer invalid (R426) -/

/-- The buffer after the fragments of `l` at the positions below `k`. -/
def fragmentsBelow (l : Lsf) (k : Nat) : LsfBuffer :=
  feedFragments l ((List.range k).map (BitVec.ofNat 3)) .empty

theorem toNat_le_of_mem_positions {k : Nat} (hk : k ≤ 6) : ∀ n ∈ (List.range k).map (BitVec.ofNat 3), n.toNat ≤ 5 := by
  intro n hn
  obtain ⟨j, hj, rfl⟩ := List.mem_map.mp hn
  have := List.mem_range.mp hj
  rw [BitVec.toNat_ofNat]
  omega

theorem feedLich_fragmentsBelow (l : Lsf) {k : Nat} (hk : k ≤ 5) :
    feedLich Codec.standard (fragmentsBelow l k) (lichEncode Codec.standard (getFragment l (BitVec.ofNat 3 k))) =
      (fragmentsBelow l (k + 1), .stored k) := by
  have hpos : (BitVec.ofNat 3 k).toNat = k := Nat.mod_eq_of_lt (by omega)
  have hbuf : (feedLich Codec.standard (fragmentsBelow l k)
      (lichEncode Codec.standard (getFragment l (BitVec.ofNat 3 k)))).1 = fragmentsBelow l (k + 1) := by
    rw [fragmentsBelow, fragmentsBelow, feedFragments, feedFragments, List.range_succ, List.map_append,
      List.foldl_append]
    rfl
  rw [feedLich_lichEncode_getFragment l (by omega)] at hbuf ⊢
  rw [hpos] at hbuf ⊢
  rw [← hbuf]

/-- A covered position was covered before or is one of the fragments'. -/
theorem mem_of_cov_feedFragments {l : Lsf} {order : List (BitVec 3)} (hle : ∀ n ∈ order, n.toNat ≤ 5)
    {buf : LsfBuffer} {k : Nat} (h : (feedFragments l order buf).cov.getLsbD k = true) :
    buf.cov.getLsbD k = true ∨ ∃ n ∈ order, n.toNat = k := by
  induction order generalizing buf with
  | nil => exact .inl h
  | cons n order ih =>
    obtain ⟨hn, hrest⟩ := List.forall_mem_cons.mp hle
    rw [feedFragments_cons l hn] at h
    obtain hcov | ⟨m, hm, hmk⟩ := ih hrest h
    · rw [getLsbD_setFragment_cov _ _ hn, Bool.or_eq_true, decide_eq_true_eq] at hcov
      exact hcov.symm.imp_right fun heq => ⟨n, List.mem_cons_self, heq.symm⟩
    · exact .inr ⟨m, List.mem_cons_of_mem n hm, hmk⟩

/-- Position 5 is missing. -/
theorem fragmentsBelow_invalid (l : Lsf) {k : Nat} (hk : k ≤ 5) :
    isValid Codec.standard (fragmentsBelow l k) = false := by
  refine eq_false_of_ne_true fun hvalid => ?_
  obtain ⟨hfull, -⟩ := Bool.and_eq_true_iff.mp hvalid
  have hcov : (fragmentsBelow l k).cov.getLsbD 5 = true := by
    rw [of_decide_eq_true hfull]
    decide
  obtain hempty | ⟨n, hn, hn5⟩ := mem_of_cov_feedFragments (toNat_le_of_mem_positions (by omega)) hcov
  · cases hempty
  · have hle := toNat_le_of_mem_positions (k := k) (by omega) n hn
    obtain ⟨j, hj, rfl⟩ := List.mem_map.mp hn
    have := List.mem_range.mp hj
    rw [BitVec.toNat_ofNat] at hn5
    omega

theorem fragmentsBelow_six (l : Lsf) : fragmentsBelow l 6 = setWhole l := by
  have hle := toNat_le_of_mem_positions (k := 6) (le_refl 6)
  refine eq_of_agreesWith (agreesWith_feedFragments hle (agreesWith_empty l)) fun k hk => ?_
  exact cov_feedFragments hle hk (.inr (List.mem_map_of_mem (List.mem_range.mpr hk)))

/-! #### Instructions in sequence -/

theorem execAll_append {is js : List Instr} {s t : State} (h : execAll is s = .next t) :
    execAll (is ++ js) s = execAll js t := by
  induction is generalizing s with
  | nil => cases h; rfl
  | cons i is ih =>
    obtain ⟨u, hu⟩ := exec_is_next i s
    rw [execAll, hu] at h
    rw [List.cons_append, execAll, hu]
    exact ih h

theorem execAll_singleton (i : Instr) (s : State) : execAll [i] s = exec i s := by
  obtain ⟨u, hu⟩ := exec_is_next i s
  rw [execAll, hu]
  rfl

/-! #### Six clean frames (R426) -/

/-- The stream frame with LICH position `n`, received without errors. -/
def cleanFrame (l : Lsf) (fn : Nat → BitVec 16) (p : Nat → Payload) (n : Nat) : Instr :=
  .tagData true (txStream Codec.standard l (BitVec.ofNat 3 n) (fn n) (p n)) false 0#16

/-- The state after the frames at the positions below `k`, from LISTENING. -/
def lateEntryState (l : Lsf) (k : Nat) (s : State) : State :=
  withRx { s.rx with state := if k = 0 then .listening else .lateEntry, primary := fragmentsBelow l k } s

section
variable {s : State} {l : Lsf} (fn : Nat → BitVec 16) (p : Nat → Payload) (hcodec : s.cfg.codec = Codec.standard)
include hcodec

theorem exec_cleanFrame {k : Nat} :
    exec (cleanFrame l fn p k) (lateEntryState l k s) =
      .next (latePath (txStream Codec.standard l (BitVec.ofNat 3 k) (fn k) (p k)) (lateEntryState l k s)) := by
  have hsync : ¬syncFails (lateEntryState l k s).cfg.codec.syncStream
      (txStream Codec.standard l (BitVec.ofNat 3 k) (fn k) (p k)) (lateEntryState l k s) = true :=
    not_syncFails (.inr (by rw [syncWord_txStream, lateEntryState, withRx_cfg, hcodec]))
  have hout : inCall (lateEntryState l k s).rx.state = false := by
    rw [lateEntryState, withRx_rx]
    dsimp only
    split <;> rfl
  exact congrArg Host.Outcome.next (doTagData_outsideCall false 0#16 hsync hout)

theorem latePath_cleanFrame {k : Nat} (hk : k ≤ 5) :
    latePath (txStream Codec.standard l (BitVec.ofNat 3 k) (fn k) (p k)) (lateEntryState l k s) =
      if isValid Codec.standard (fragmentsBelow l (k + 1)) then
        tryStart (some (txStream Codec.standard l (BitVec.ofNat 3 k) (fn k) (p k)))
          (withRx { (lateEntryState l k s).rx with primary := fragmentsBelow l (k + 1) } (lateEntryState l k s))
      else lateEntryState l (k + 1) s := by
  have hfed : feedLich (lateEntryState l k s).cfg.codec (lateEntryState l k s).rx.primary
      (rxLich (lateEntryState l k s).cfg.codec (txStream Codec.standard l (BitVec.ofNat 3 k) (fn k) (p k))) =
      (fragmentsBelow l (k + 1), .stored k) := by
    rw [lateEntryState, withRx_cfg, hcodec, rxLich_txStream]
    exact feedLich_fragmentsBelow l hk
  rw [latePath_eq hfed, show (lateEntryState l k s).cfg.codec = Codec.standard from hcodec]
  rfl

theorem execAll_cleanFrames (hstate : s.rx.state = .listening) (hprimary : s.rx.primary = .empty) {k : Nat}
    (hk : k ≤ 5) : execAll ((List.range k).map (cleanFrame l fn p)) s = .next (lateEntryState l k s) := by
  induction k with
  | zero =>
    have hrx : { s.rx with state := .listening, primary := .empty } = s.rx := by rw [← hstate, ← hprimary]
    exact congrArg (fun u => Host.Outcome.next (withRx u s)) hrx.symm
  | succ k ih =>
    rw [List.range_succ, List.map_append, execAll_append (ih (by omega)), List.map_singleton, execAll_singleton,
      exec_cleanFrame fn p hcodec, latePath_cleanFrame fn p hcodec (by omega), fragmentsBelow_invalid l hk]
    rfl

/-- R426: the sixth frame starts the call and queues its payload. -/
theorem exec_sixthCleanFrame {st : RxState} (hcrc : crcOk Codec.standard l = true)
    (htarget : callTarget (dataType l) = some st) (hcan : canfEn s = false ∨ lsfCan l = canfVal s)
    (heos : eosEnd s = false) :
    exec (cleanFrame l fn p 5) (lateEntryState l 5 s) =
      .next (pushPlq ⟨fn 5, st, 0#16, p 5⟩ (emit (.callStart st .lateEntry l)
        (withRx ⟨st, setWhole l, .empty, 1#32, 272#32, 0#32, false⟩ s))) := by
  have haccept : acceptLsf (setWhole l).lsf (lateEntryState l 5 s) = .inr st := acceptLsf_of_callTarget htarget hcan
  have hdata : rxData (lateEntryState l 5 s).cfg.codec
      (txStream Codec.standard l (BitVec.ofNat 3 5) (fn 5) (p 5)) = (fn 5, p 5, 0) := by
    rw [lateEntryState, withRx_cfg, hcodec, rxData_txStream]
  rw [exec_cleanFrame fn p hcodec, latePath_cleanFrame fn p hcodec (le_refl 5), fragmentsBelow_six,
    if_pos ((isValid_setWhole _ l).trans hcrc), tryStart_late haccept, hdata, endOnEos, if_neg]
  · rfl
  · rw [eosEnd, pushPlq_ctrl, emit_ctrl]
    exact fun ⟨hend, _⟩ => absurd (heos.symm.trans hend) Bool.false_ne_true

end

/-- Settles O31: the first five frames leave a buffer that lacks position 5; the sixth completes it. -/
theorem sixFramesMakeLateEntry : Obligations.SixFramesMakeLateEntry := by
  unfold Obligations.SixFramesMakeLateEntry
  intro s l st fn p hcodec hstate hprimary hcrc htarget hcan heos frames
  have hframes : frames = (List.range 6).map (cleanFrame l fn p) := rfl
  refine ⟨fun k hpos hk => ?late, ?started⟩
  case late =>
    have htake : frames.take k = (List.range k).map (cleanFrame l fn p) := by
      rw [hframes, ← List.map_take, List.take_range, Nat.min_eq_left (by omega)]
    rw [htake]
    exact ⟨lateEntryState l k s, execAll_cleanFrames fn p hcodec hstate hprimary hk, if_neg (by omega), rfl, rfl⟩
  case started =>
    have hsix : frames = (List.range 5).map (cleanFrame l fn p) ++ [cleanFrame l fn p 5] := rfl
    rw [hsix, execAll_append (execAll_cleanFrames fn p hcodec hstate hprimary (le_refl 5)), execAll_singleton,
      exec_sixthCleanFrame fn p hcodec hcrc htarget hcan heos]
    refine ⟨_, rfl, by rw [pushPlq_rx, emit_rx, withRx_rx]; rfl, fun hevq hplq => ?_⟩
    rw [emit_withRx, pushPlq_withRx, pushPlq_emit_of_lt hevq hplq]
    exact ⟨rfl, rfl⟩

end Sys2Proof.Machine
end

section
/-! ### Memory that no unit shows, and the transmit unit and its queue replaced -/

namespace Sys2Proof.Machine

section
variable {s t : State} {sp : Byte}

/-- A space with storage reads as the memory does, whatever the units hold. -/
theorem memRead_of_mem_eq (hsp : ∀ t, viewOf sp t = none) (h : t.mem = s.mem) (off n : Nat) :
    memRead sp off n t = memRead sp off n s := by
  simp only [memRead, bufByte, hsp, h]

end

theorem viewOf_spTxLsf (s : State) : viewOf spTxLsf s = none := rfl

theorem viewOf_spNextLsf (s : State) : viewOf spNextLsf s = none := rfl

theorem viewOf_spScrIn (s : State) : viewOf spScrIn s = none := rfl

/-- `s` with the transmit unit `u`. -/
def withTx (u : TxUnit) (s : State) : State := { s with tx := u }

/-- `s` with the transmit unit `u` and the transmit queue `q`. -/
def withTransmit (u : TxUnit) (q : List TxEntry) (s : State) : State := { s with tx := u, txq := q }

section
variable (u : TxUnit) (q : List TxEntry) (s : State)

@[simp] theorem withTx_cfg : (withTx u s).cfg = s.cfg := rfl

@[simp] theorem withTx_tx : (withTx u s).tx = u := rfl

@[simp] theorem withTx_txq : (withTx u s).txq = s.txq := rfl

@[simp] theorem withTx_mem : (withTx u s).mem = s.mem := rfl

@[simp] theorem withTransmit_cfg : (withTransmit u q s).cfg = s.cfg := rfl

@[simp] theorem withTransmit_rx : (withTransmit u q s).rx = s.rx := rfl

@[simp] theorem withTransmit_tx : (withTransmit u q s).tx = u := rfl

@[simp] theorem withTransmit_txq : (withTransmit u q s).txq = q := rfl

theorem withTransmit_eq_withTx : withTransmit u s.txq s = withTx u s := rfl

theorem withRx_withTransmit (v : RxUnit) : withRx v (withTransmit u q s) = withTransmit u q (withRx v s) := rfl

theorem emit_withTransmit (ev : Event) : emit ev (withTransmit u q s) = withTransmit u q (emit ev s) := by
  rw [emit, emit, apply_ite (withTransmit u q)]
  rfl

theorem raise_withTransmit (k : ErrCode) : raise k (withTransmit u q s) = withTransmit u q (raise k s) := by
  rw [raise, raise, apply_ite (withTransmit u q), ← emit_withTransmit]
  rfl

theorem raise_withTx (k : ErrCode) : raise k (withTx u s) = withTx u (raise k s) := by
  rw [← withTransmit_eq_withTx, raise_withTransmit, ← raise_txq k s, withTransmit_eq_withTx]

theorem pushTxq_withTx (e : TxEntry) : pushTxq e (withTx u s) = withTx u (pushTxq e s) := by
  rw [pushTxq, pushTxq, apply_ite (withTx u), ← raise_withTx]
  rfl

theorem pushTxq_withRx (e : TxEntry) (v : RxUnit) : pushTxq e (withRx v s) = withRx v (pushTxq e s) := by
  rw [pushTxq, pushTxq, apply_ite (withRx v), ← raise_withRx]
  rfl

end

end Sys2Proof.Machine
end

section
/-! ### The transmit commands (46_tx_builder.md) -/

namespace Sys2Proof.Machine

/-! #### TX_START, TX_END and TX_NEXT_LSF (R461, R473, R475) -/

/-- The unit that TX_START leaves (R461), with the sealed LSF `l`. -/
def startedUnit (l : Lsf) : TxUnit := ⟨.header, l, false, l, 0#3, 0#15, 0#32⟩

/-- The sealed LSF of the transmit space (R461). -/
def sealedTxLsf (s : State) : Lsf := lsfSeal s.cfg.codec (seqOfBytes 240 (memRead spTxLsf 0 30 s))

section
variable {s : State}

theorem doTxStart_of_none (h : s.tx.state = .none) : doTxStart s = withTx (startedUnit (sealedTxLsf s)) s :=
  if_neg (not_not_intro h)

theorem doTxStart_of_ne_none (h : s.tx.state ≠ .none) : doTxStart s = raise .txState s := if_pos h

theorem doTxEnd_of_none (h : s.tx.state = .none) : doTxEnd s = raise .txState s := by
  rw [doTxEnd, h]

theorem doTxEnd_of_header (h : s.tx.state = .header) : doTxEnd s = withTx { s.tx with state := .none } s := by
  rw [doTxEnd, h]
  rfl

/-- R473, R474: END is left in the same command. -/
theorem doTxEnd_of_frames (h : s.tx.state = .audio ∨ s.tx.state = .ending) :
    doTxEnd s = withTx { s.tx with state := .none } (pushTxq ⟨4#3, txEot s.cfg.codec⟩ s) := by
  have hend : pushTxq ⟨4#3, txEot s.cfg.codec⟩ { s with tx := { s.tx with state := .ending } } =
      withTx { s.tx with state := .ending } (pushTxq ⟨4#3, txEot s.cfg.codec⟩ s) := pushTxq_withTx _ s _
  obtain h | h := h
  all_goals
    rw [doTxEnd, h]
    dsimp only
    rw [hend]
    rfl

end

/-- Settles O33: one equation per command and transmit state. -/
theorem transmitCommands : Obligations.TransmitCommands := by
  unfold Obligations.TransmitCommands
  exact fun s => ⟨fun h => congrArg Host.Outcome.next (doTxStart_of_none h),
    fun h => congrArg Host.Outcome.next (doTxStart_of_ne_none h),
    fun h => congrArg Host.Outcome.next (doTxEnd_of_none h),
    fun h => congrArg Host.Outcome.next (doTxEnd_of_header h),
    fun h => congrArg Host.Outcome.next (doTxEnd_of_frames (.inl h)), rfl⟩

/-! #### Several frames queued (R469) -/

/-- The frames queued in order, each as far as there is room. -/
def queueFrames (es : List TxEntry) (s : State) : State := es.foldl (fun t e => pushTxq e t) s

/-- The places left in the transmit queue. -/
def txqRoom (s : State) : Nat := s.cfg.txqCap - s.txq.length

theorem queueFrames_append (es fs : List TxEntry) (s : State) :
    queueFrames (es ++ fs) s = queueFrames fs (queueFrames es s) := List.foldl_append

theorem queueFrames_withRx (es : List TxEntry) (u : RxUnit) (s : State) :
    queueFrames es (withRx u s) = withRx u (queueFrames es s) := by
  induction es generalizing s with
  | nil => rfl
  | cons e es ih => exact (congrArg (queueFrames es) (pushTxq_withRx s e u)).trans (ih _)

theorem iterate_raise_withTransmit (k : ErrCode) (n : Nat) (u : TxUnit) (q : List TxEntry) (s : State) :
    (raise k)^[n] (withTransmit u q s) = withTransmit u q ((raise k)^[n] s) :=
  have hcomm : Function.Semiconj (withTransmit u q) (raise k) (raise k) := fun t => (raise_withTransmit u q t k).symm
  (hcomm.iterate_right n s).symm

/-- Repeated errors change `ERR` and the event FIFO, and no other field. -/
theorem iterate_raise_frame (k : ErrCode) (n : Nat) (s : State) :
    (raise k)^[n] s = { s with err := ((raise k)^[n] s).err, evq := ((raise k)^[n] s).evq } := by
  induction n with
  | zero => rfl
  | succ n ih =>
    rw [Function.iterate_succ_apply', ih]
    obtain ⟨-, h⟩ | ⟨-, -, h⟩ | ⟨-, -, h⟩ := raise_cases k
      { s with err := ((raise k)^[n] s).err, evq := ((raise k)^[n] s).evq }
    all_goals rw [h]

/-- R469: the queue takes what it has room for, and each other frame raises `E_TXQ_OVF`. -/
theorem queueFrames_eq (es : List TxEntry) (s : State) :
    queueFrames es s =
      withTransmit s.tx (s.txq ++ es.take (txqRoom s)) ((raise .txqOvf)^[es.length - txqRoom s] s) := by
  induction es generalizing s with
  | nil =>
    rw [List.take_nil, List.append_nil, List.length_nil, Nat.zero_sub]
    rfl
  | cons e es ih =>
    have hstep : queueFrames (e :: es) s = queueFrames es (pushTxq e s) := rfl
    obtain ⟨hroom, h⟩ | ⟨hfull, h⟩ := pushTxq_cases e s
    · have hpush : pushTxq e s = withTransmit s.tx (s.txq ++ [e]) s := h
      have hone : txqRoom s = txqRoom (withTransmit s.tx (s.txq ++ [e]) s) + 1 := by
        simp only [txqRoom, withTransmit, List.length_append, List.length_singleton]
        omega
      rw [hstep, hpush, ih, iterate_raise_withTransmit, hone, List.take_succ_cons, List.length_cons,
        Nat.add_sub_add_right]
      exact congrArg (fun q => withTransmit s.tx q _) (List.append_assoc s.txq [e] _)
    · have hnone : txqRoom s = 0 := Nat.sub_eq_zero_of_le hfull
      have hnone' : txqRoom (raise .txqOvf s) = 0 := by rw [txqRoom, raise_cfg, raise_txq]; exact hnone
      rw [hstep, h, ih, hnone, hnone', raise_tx, raise_txq]
      rfl

theorem queueFrames_of_room {es : List TxEntry} {s : State} (h : s.txq.length + es.length ≤ s.cfg.txqCap) :
    queueFrames es s = withTransmit s.tx (s.txq ++ es) s := by
  have hroom : es.length ≤ txqRoom s := by rw [txqRoom]; omega
  rw [queueFrames_eq, List.take_of_length_le hroom, Nat.sub_eq_zero_of_le hroom]
  rfl

section
variable (es : List TxEntry) (s : State)

@[simp] theorem queueFrames_cfg : (queueFrames es s).cfg = s.cfg := by
  rw [queueFrames_eq, iterate_raise_frame]
  rfl

@[simp] theorem queueFrames_mem : (queueFrames es s).mem = s.mem := by
  rw [queueFrames_eq, iterate_raise_frame]
  rfl

end

/-! #### The bit of `E_TXQ_OVF` -/

theorem getLsbD_raise_txqOvf (s : State) : (raise .txqOvf s).err.getLsbD 17 = true := by
  obtain ⟨-, h⟩ | ⟨-, -, h⟩ | ⟨-, -, h⟩ := raise_cases .txqOvf s
  all_goals
    rw [h]
    simp [errBit, errNum]

theorem getLsbD_iterate_raise_txqOvf (n : Nat) (s : State) :
    ((raise .txqOvf)^[n] s).err.getLsbD 17 = (s.err.getLsbD 17 || decide (0 < n)) := by
  cases n with
  | zero => simp
  | succ n => rw [Function.iterate_succ_apply', getLsbD_raise_txqOvf]; simp

/-! #### TX_PAYLOAD (R464 to R469) -/

/-- The LICH LSF of the payload's frame: latched where the position is 0 (R464, R468). -/
def latchedLsf (s : State) : Lsf :=
  if s.tx.lichPos = 0#3 then
    if s.tx.nextPending = true then lsfSeal s.cfg.codec (seqOfBytes 240 (memRead spNextLsf 0 30 s)) else s.tx.hdrLsf
  else s.tx.lichLsf

/-- The unit after the latch. -/
def latchedUnit (s : State) : TxUnit :=
  { s.tx with lichLsf := latchedLsf s, nextPending := if s.tx.lichPos = 0#3 then false else s.tx.nextPending }

/-- The HEADER frame that a payload's frame waits for (R464). -/
def headerFrames (s : State) : List TxEntry :=
  if s.tx.state = .header then [⟨0#3, txHeader s.cfg.codec s.tx.hdrLsf⟩] else []

/-- The state after the HEADER frame. -/
def headerSentState (st : TxState) : TxState := if st = .header then .audio else st

/-- The payload in `SCR_IN` (R464). -/
def scrInPayload (s : State) : Payload := seqOfBytes 128 (memRead spScrIn 0 16 s)

theorem scrInPayload_congr {s t : State} (hmem : t.mem = s.mem) : scrInPayload t = scrInPayload s := by
  rw [scrInPayload, memRead_of_mem_eq viewOf_spScrIn hmem, scrInPayload]

/-- The STREAM frame of a payload (R464). -/
def payloadFrame (eos : Bool) (s : State) : TxEntry :=
  ⟨1#3, txStream s.cfg.codec (latchedLsf s) s.tx.lichPos (payloadFn eos s) (scrInPayload s)⟩

/-- The unit `u` moved on to the next frame (R464, R466, R467). -/
def advancedUnit (c : Codec) (u : TxUnit) : TxUnit :=
  { u with lichPos := nextLichPos u.lichPos, fn := nextFn c u.fn, frames := satAdd32 u.frames 1 }

/-- The unit after a payload. -/
def sentUnit (s : State) : TxUnit :=
  advancedUnit s.cfg.codec { latchedUnit s with state := headerSentState s.tx.state }

theorem headerFirst_eq (s : State) :
    headerFirst s = withTx { s.tx with state := headerSentState s.tx.state } (queueFrames (headerFrames s) s) := by
  rw [headerFirst, headerSentState, headerFrames]
  split
  · dsimp only
    rw [pushTxq_tx]
    rfl
  · rfl

theorem latchLich_eq (s : State) : latchLich s = withTx (latchedUnit s) s := by
  rw [latchLich, latchedUnit, latchedLsf]
  split
  · cases hp : s.tx.nextPending with
    | true => rfl
    | false => exact congrArg (fun b => withTx { s.tx with lichLsf := s.tx.hdrLsf, nextPending := b } s) hp
  · rfl

theorem latchedLsf_congr {s t : State} {st : TxState} (hcfg : t.cfg = s.cfg) (hmem : t.mem = s.mem)
    (htx : t.tx = { s.tx with state := st }) : latchedLsf t = latchedLsf s := by
  rw [latchedLsf, hcfg, htx, memRead_of_mem_eq viewOf_spNextLsf hmem]
  rfl

/-- The STREAM frame that a builder past its latch makes (R463). -/
def streamFrame (eos : Bool) (s : State) : TxEntry :=
  ⟨1#3, txStream s.cfg.codec s.tx.lichLsf s.tx.lichPos (payloadFn eos s) (scrInPayload s)⟩

/-- R464: the steps of TX_PAYLOAD after the latch. -/
def sendPayload (eos : Bool) (s : State) : State :=
  let sent := putRes0 ((payloadFn eos s).setWidth 32) (pushTxq (streamFrame eos s) s)
  withTx (advancedUnit sent.cfg.codec sent.tx) sent

theorem doTxPayload_of_ne_none (eos : Bool) {s : State} (h : s.tx.state ≠ .none) :
    doTxPayload eos s = sendPayload eos (latchLich (headerFirst s)) := if_neg h

theorem latchLich_headerFirst (s : State) : latchLich (headerFirst s) =
    withTx { latchedUnit s with state := headerSentState s.tx.state } (queueFrames (headerFrames s) s) := by
  have hlsf : latchedLsf (headerFirst s) = latchedLsf s := by
    rw [headerFirst_eq]
    exact latchedLsf_congr (queueFrames_cfg _ s) (queueFrames_mem _ s) rfl
  rw [latchLich_eq, latchedUnit, hlsf, headerFirst_eq]
  rfl

section
variable {s t : State} {st : TxState} (eos : Bool) (hcfg : t.cfg = s.cfg)
  (htx : t.tx = { latchedUnit s with state := st })
include hcfg htx

theorem payloadFn_of_latched : payloadFn eos t = payloadFn eos s := by
  rw [payloadFn, hcfg, htx]
  rfl

theorem streamFrame_of_latched (hmem : t.mem = s.mem) : streamFrame eos t = payloadFrame eos s := by
  rw [streamFrame, payloadFn_of_latched eos hcfg htx, hcfg, htx, scrInPayload_congr hmem]
  rfl

end

/-- R464, R469: the whole of TX_PAYLOAD outside NONE. -/
theorem doTxPayload_eq (eos : Bool) {s : State} (h : s.tx.state ≠ .none) :
    doTxPayload eos s = putRes0 ((payloadFn eos s).setWidth 32)
      (withTx (sentUnit s) (queueFrames (headerFrames s ++ [payloadFrame eos s]) s)) := by
  have hcfg : (latchLich (headerFirst s)).cfg = s.cfg := by
    rw [latchLich_headerFirst, withTx_cfg, queueFrames_cfg]
  have hmem : (latchLich (headerFirst s)).mem = s.mem := by
    rw [latchLich_headerFirst, withTx_mem, queueFrames_mem]
  have htx : (latchLich (headerFirst s)).tx = { latchedUnit s with state := headerSentState s.tx.state } := by
    rw [latchLich_headerFirst, withTx_tx]
  rw [doTxPayload_of_ne_none eos h, sendPayload, payloadFn_of_latched eos hcfg htx,
    streamFrame_of_latched eos hcfg htx hmem, latchLich_headerFirst, pushTxq_withTx]
  dsimp only
  rw [putRes0_cfg, withTx_cfg, pushTxq_cfg, queueFrames_cfg, queueFrames_append]
  rfl

theorem doTxPayload_of_none (eos : Bool) {s : State} (h : s.tx.state = .none) :
    doTxPayload eos s = raise .txState s := if_pos h

theorem payloadFn_standard (eos : Bool) {s : State} (h : s.cfg.codec.fnBits.val = 16) :
    payloadFn eos s = BitVec.ofBool eos ++ s.tx.fn := by
  have hlt := s.tx.fn.isLt
  have hbool : (BitVec.ofBool eos).toNat = eos.toNat := BitVec.toNat_ofBool eos
  have hle : eos.toNat ≤ 1 := Bool.toNat_le eos
  refine BitVec.eq_of_toNat_eq ?_
  rw [payloadFn, Codec.counterBits, h, BitVec.toNat_append, ← Nat.shiftLeft_add_eq_or_of_lt hlt, Nat.shiftLeft_eq,
    hbool, BitVec.toNat_ofNat]
  omega

/-- Settles O34: the frames built are queued as far as there is room, the unit advances. -/
theorem payloadCommand : Obligations.PayloadCommand := by
  unfold Obligations.PayloadCommand
  intro s eos
  refine ⟨fun h => congrArg Host.Outcome.next (doTxPayload_of_none eos h), ?_⟩
  intro hstate c lich count fn built
  have hne : s.tx.state ≠ .none := by
    obtain h | h := hstate <;> rw [h] <;> decide
  have haudio : headerSentState s.tx.state = .audio := by
    obtain h | h := hstate <;> rw [h] <;> rfl
  have hbuilt : headerFrames s ++ [payloadFrame eos s] = built := rfl
  have hexec : exec (.txPayload eos) s = .next (putRes0 (fn.setWidth 32) (withTransmit (sentUnit s)
      (s.txq ++ built.take (txqRoom s)) ((raise .txqOvf)^[built.length - txqRoom s] s))) := by
    rw [← hbuilt]
    refine congrArg Host.Outcome.next ((doTxPayload_eq eos hne).trans ?_)
    rw [queueFrames_eq]
    rfl
  refine ⟨_, hexec, ?frame, ?unit, rfl, payloadFn_standard eos, rfl, ⟨rfl, rfl, ?fits⟩, ?bit⟩
  case frame =>
    rw [iterate_raise_frame]
    rfl
  case unit =>
    show sentUnit s = _
    rw [sentUnit, haudio]
    rfl
  case fits =>
    intro hroom
    rw [Nat.sub_eq_zero_of_le (show built.length ≤ txqRoom s by rw [txqRoom]; omega)]
    exact ⟨rfl, rfl⟩
  case bit =>
    have hdropped : 0 < built.length - txqRoom s ↔ s.cfg.txqCap < s.txq.length + built.length := by
      have hpos : 0 < built.length := by rw [← hbuilt, List.length_append]; exact Nat.succ_pos _
      rw [txqRoom]
      omega
    exact (getLsbD_iterate_raise_txqOvf _ s).trans (by rw [decide_eq_decide.mpr hdropped])

end Sys2Proof.Machine
end

section
/-! ### A whole call, and the frames decoded (46_tx_builder.md R462, R463, R476) -/

namespace Sys2Proof.Machine

/-! #### A whole call (R476) -/

/-- The transmit unit of a call with LSF `l` after `k` payloads, its frame count `m`. -/
def callUnit (c : Codec) (l : Lsf) (k : Nat) (m : Word) : TxUnit :=
  ⟨if k = 0 then .header else .audio, l, false, l, BitVec.ofNat 3 (k % 6),
    BitVec.ofNat 15 (k % 2 ^ c.counterBits), m⟩

/-- The STREAM frame of payload `p` number `k`. -/
def streamEntry (c : Codec) (l : Lsf) (p : Payload) (k : Nat) : TxEntry :=
  ⟨1#3, txStream c l (BitVec.ofNat 3 (k % 6)) (BitVec.ofNat 16 (k % 2 ^ c.counterBits)) p⟩

/-- The frames of a call after `k` payloads, all of them `p`. -/
def callFrames (c : Codec) (l : Lsf) (p : Payload) (k : Nat) : List TxEntry :=
  (if k = 0 then [] else [⟨0#3, txHeader c l⟩]) ++ (List.range k).map (streamEntry c l p)

/-- The call that TX_START begins in `s`, after `k` payloads: frame count `m`, last frame number `r`. -/
def callState (s : State) (k : Nat) (m r : Word) : State :=
  putRes0 r (withTransmit (callUnit s.cfg.codec (sealedTxLsf s) k m)
    (callFrames s.cfg.codec (sealedTxLsf s) (scrInPayload s) k) s)

theorem length_callFrames_le (c : Codec) (l : Lsf) (p : Payload) (k : Nat) : (callFrames c l p k).length ≤ k + 1 := by
  have hheader : (if k = 0 then [] else [(⟨0#3, txHeader c l⟩ : TxEntry)]).length ≤ 1 := by
    split
    · exact Nat.zero_le 1
    · exact le_refl 1
  rw [callFrames, List.length_append, List.length_map, List.length_range]
  omega

/-- `FN_BITS` is at most 16 (R9), so the counter has its 15 bits. -/
theorem toNat_counter (c : Codec) (k : Nat) :
    (BitVec.ofNat 15 (k % 2 ^ c.counterBits)).toNat = k % 2 ^ c.counterBits := by
  have hbits : c.counterBits ≤ 15 := by
    have := c.fnBits.isLt
    rw [Codec.counterBits]
    omega
  exact Nat.mod_eq_of_lt ((Nat.mod_lt k (Nat.two_pow_pos _)).trans_le (Nat.pow_le_pow_right Nat.two_pos hbits))

theorem nextFn_counter (c : Codec) (k : Nat) :
    nextFn c (BitVec.ofNat 15 (k % 2 ^ c.counterBits)) = BitVec.ofNat 15 ((k + 1) % 2 ^ c.counterBits) := by
  rw [nextFn, toNat_counter, Nat.mod_add_mod]

theorem nextLichPos_mod (k : Nat) : nextLichPos (BitVec.ofNat 3 (k % 6)) = BitVec.ofNat 3 ((k + 1) % 6) := by
  rw [nextLichPos, BitVec.toNat_ofNat]
  congr 1
  omega

section
variable (s : State) (k : Nat) (m r : Word)

theorem payloadFn_callState :
    payloadFn false (callState s k m r) = BitVec.ofNat 16 (k % 2 ^ s.cfg.codec.counterBits) := by
  have hfn : (callState s k m r).tx.fn = BitVec.ofNat 15 (k % 2 ^ s.cfg.codec.counterBits) := rfl
  have hcfg : (callState s k m r).cfg = s.cfg := rfl
  rw [payloadFn, hfn, hcfg, toNat_counter, Bool.toNat_false, Nat.zero_mul, Nat.zero_add, Nat.mod_mod]

/-- No variant is pending in the call, so every position is cut from its LSF. -/
theorem latchedLsf_callState : latchedLsf (callState s k m r) = sealedTxLsf s := ite_self _

theorem payloadFrame_callState : payloadFrame false (callState s k m r) =
    streamEntry s.cfg.codec (sealedTxLsf s) (scrInPayload s) k := by
  have hpayload : scrInPayload (callState s k m r) = scrInPayload s := scrInPayload_congr rfl
  rw [payloadFrame, payloadFn_callState, latchedLsf_callState, hpayload]
  rfl

theorem callFrames_succ (c : Codec) (l : Lsf) (p : Payload) :
    callFrames c l p k ++ ((if k = 0 then [⟨0#3, txHeader c l⟩] else []) ++ [streamEntry c l p k]) =
      callFrames c l p (k + 1) := by
  rw [callFrames, callFrames, List.range_succ, List.map_append, if_neg (Nat.succ_ne_zero k)]
  cases k with
  | zero => rfl
  | succ k =>
    rw [if_neg (Nat.succ_ne_zero k), if_neg (Nat.succ_ne_zero k), List.append_assoc]
    rfl

theorem headerFrames_callState : headerFrames (callState s k m r) =
    if k = 0 then [⟨0#3, txHeader s.cfg.codec (sealedTxLsf s)⟩] else [] := by
  cases k with
  | zero => rfl
  | succ k => rfl

theorem sentUnit_callState :
    sentUnit (callState s k m r) = callUnit s.cfg.codec (sealedTxLsf s) (k + 1) (satAdd32 m 1) := by
  have hstate : headerSentState (callState s k m r).tx.state = .audio := by
    cases k with
    | zero => rfl
    | succ k => rfl
  have hpending : (if (callState s k m r).tx.lichPos = 0#3 then false else (callState s k m r).tx.nextPending) =
      false := ite_self _
  rw [sentUnit, hstate, latchedUnit, latchedLsf_callState, hpending, callUnit, if_neg (Nat.succ_ne_zero k),
    ← nextFn_counter, ← nextLichPos_mod]
  rfl

end

/-- One payload of the call, with room for its frames. -/
theorem exec_txPayload_callState (s : State) {k : Nat} (hroom : k + 2 ≤ s.cfg.txqCap) (m r : Word) :
    ∃ m' r', exec (.txPayload false) (callState s k m r) = .next (callState s (k + 1) m' r') := by
  have hne : (callState s k m r).tx.state ≠ .none := by
    cases k with
    | zero => nofun
    | succ k => nofun
  have hframes : (callState s k m r).txq ++
      (headerFrames (callState s k m r) ++ [payloadFrame false (callState s k m r)]) =
      callFrames s.cfg.codec (sealedTxLsf s) (scrInPayload s) (k + 1) := by
    rw [headerFrames_callState, payloadFrame_callState]
    exact callFrames_succ k s.cfg.codec (sealedTxLsf s) (scrInPayload s)
  have hfits : (callState s k m r).txq.length +
      (headerFrames (callState s k m r) ++ [payloadFrame false (callState s k m r)]).length ≤ s.cfg.txqCap := by
    rw [← List.length_append, hframes]
    exact (length_callFrames_le _ _ _ (k + 1)).trans hroom
  refine ⟨satAdd32 m 1, (payloadFn false (callState s k m r)).setWidth 32,
    congrArg Host.Outcome.next ((doTxPayload_eq false hne).trans ?_)⟩
  rw [queueFrames_of_room hfits, hframes, sentUnit_callState]
  rfl

theorem execAll_payloads (s : State) {n : Nat} (hroom : n + 1 ≤ s.cfg.txqCap) :
    ∃ m r, execAll (List.replicate n (.txPayload false)) (callState s 0 0#32 s.res0) = .next (callState s n m r) := by
  induction n with
  | zero => exact ⟨_, _, rfl⟩
  | succ n ih =>
    obtain ⟨m, r, hsent⟩ := ih (by omega)
    obtain ⟨m', r', hnext⟩ := exec_txPayload_callState s hroom m r
    refine ⟨m', r', ?_⟩
    rw [List.replicate_succ', execAll_append hsent, execAll_singleton, hnext]

/-- TX_START begins the call. -/
theorem exec_txStart_callState {s : State} (hstate : s.tx.state = .none) (hempty : s.txq = []) :
    exec .txStart s = .next (callState s 0 0#32 s.res0) := by
  have hqueue : withTransmit (startedUnit (sealedTxLsf s)) [] s = withTx (startedUnit (sealedTxLsf s)) s := by
    rw [← hempty, withTransmit_eq_withTx]
  have hunit : callUnit s.cfg.codec (sealedTxLsf s) 0 0#32 = startedUnit (sealedTxLsf s) := by
    rw [callUnit, Nat.zero_mod, Nat.zero_mod]
    rfl
  rw [callState, hunit]
  exact congrArg Host.Outcome.next ((doTxStart_of_none hstate).trans hqueue.symm)

/-- Settles O35: TX_START begins the call, each payload continues it, TX_END queues its last frame. -/
theorem wholeCallQueuesItsFrames : Obligations.WholeCallQueuesItsFrames := by
  unfold Obligations.WholeCallQueuesItsFrames
  intro s n hstate hempty hpos hroom c l
  obtain ⟨m, r, hsent⟩ := execAll_payloads s (n := n) (by omega)
  have hn : n ≠ 0 := by omega
  have haudio : (callState s n m r).tx.state = .audio := if_neg hn
  have hroomEot : (callState s n m r).txq.length < (callState s n m r).cfg.txqCap :=
    (length_callFrames_le _ _ _ n).trans_lt hroom
  have hend : exec .txEnd (callState s n m r) =
      .next (withTx { (callState s n m r).tx with state := .none } (pushTxq ⟨4#3, txEot c⟩ (callState s n m r))) :=
    congrArg Host.Outcome.next (doTxEnd_of_frames (.inl haudio))
  have hrun : execAll (.txStart :: (List.replicate n (.txPayload false) ++ [.txEnd])) s = .next (withTx
      { (callState s n m r).tx with state := .none } (pushTxq ⟨4#3, txEot c⟩ (callState s n m r))) := by
    rw [execAll, exec_txStart_callState hstate hempty]
    dsimp only
    rw [execAll_append hsent, execAll_singleton, hend]
  refine ⟨_, hrun, rfl, ?_⟩
  rw [withTx_txq, pushTxq, if_pos hroomEot]
  show callFrames c l (scrInPayload s) n ++ [_] = _
  rw [callFrames, if_neg hn]
  rfl

/-! #### The HEADER frame decoded (R462, R403) -/

/-- The receiver's bit transform undoes the transmitter's, whatever the sync word. -/
theorem rxBody_append_txBody (w : BitVec 16) (b : Body) :
    rxBody Codec.standard (w ++ txBody Codec.standard b) = b := by
  have hbody : (w ++ txBody Codec.standard b).extractLsb' 0 368 = txBody Codec.standard b :=
    BitVec.extractLsb'_append_eq_right
  rw [rxBody, hbody, txBody, scramble_scramble, deinterleave_interleave perm_standard_interleaveP]

theorem rxHeader_txHeader (l : Lsf) : rxHeader Codec.standard (txHeader Codec.standard l) = l := by
  obtain ⟨hdecode, -⟩ := noiseFreeBlocksDecode
  rw [rxHeader, txHeader, rxBody_append_txBody, hdecode]

/-- Settles O36: the receiver undoes the builder's bit transform, and a noise-free block decodes to its data. -/
theorem framesRoundTrip : Obligations.FramesRoundTrip := by
  unfold Obligations.FramesRoundTrip
  exact ⟨rxHeader_txHeader, fun l n fn p => ⟨rxLich_txStream l n fn p, rxData_txStream l n fn p⟩⟩

end Sys2Proof.Machine
end

section
/-! ### Transmit and receive units apart (46_tx_builder.md R477)

An operation that neither reads nor writes a unit gives the same result around any value of it: it commutes with
`withRx`, or with `withTransmit`. -/

namespace Sys2Proof.Machine

/-! #### The transmit commands around a receive unit -/

section
variable (u : RxUnit) (s : State)

theorem doTxStart_withRx : doTxStart (withRx u s) = withRx u (doTxStart s) := by
  have hl : sealedTxLsf (withRx u s) = sealedTxLsf s := by
    rw [sealedTxLsf, memRead_of_mem_eq (s := s) (t := withRx u s) viewOf_spTxLsf rfl]
    rfl
  by_cases h : s.tx.state = .none
  · rw [doTxStart_of_none h, doTxStart_of_none (s := withRx u s) h, hl]
    rfl
  · rw [doTxStart_of_ne_none h, doTxStart_of_ne_none (s := withRx u s) h, raise_withRx]

theorem doTxPayload_withRx (eos : Bool) : doTxPayload eos (withRx u s) = withRx u (doTxPayload eos s) := by
  have hlsf : latchedLsf (withRx u s) = latchedLsf s := latchedLsf_congr rfl rfl rfl
  have hframe : payloadFrame eos (withRx u s) = payloadFrame eos s := by
    rw [payloadFrame, hlsf, scrInPayload_congr (s := s) (t := withRx u s) rfl]
    rfl
  have hunit : sentUnit (withRx u s) = sentUnit s := by
    rw [sentUnit, latchedUnit, hlsf]
    rfl
  by_cases h : s.tx.state = .none
  · rw [doTxPayload_of_none eos h, doTxPayload_of_none (s := withRx u s) eos h, raise_withRx]
  · rw [doTxPayload_eq eos h, doTxPayload_eq (s := withRx u s) eos h, hframe, hunit, queueFrames_withRx]
    rfl

theorem doTxEnd_withRx : doTxEnd (withRx u s) = withRx u (doTxEnd s) := by
  have hframes (h : s.tx.state = .audio ∨ s.tx.state = .ending) : doTxEnd (withRx u s) = withRx u (doTxEnd s) := by
    rw [doTxEnd_of_frames h, doTxEnd_of_frames (s := withRx u s) h, pushTxq_withRx]
    rfl
  cases h : s.tx.state with
  | none => rw [doTxEnd_of_none h, doTxEnd_of_none (s := withRx u s) h, raise_withRx]
  | header =>
    rw [doTxEnd_of_header h, doTxEnd_of_header (s := withRx u s) h]
    rfl
  | audio => exact hframes (.inl h)
  | ending => exact hframes (.inr h)

end

/-- A command that commutes with every receive unit. -/
theorem exec_apart_from_rx {i : Instr} {f : State → State} (hexec : ∀ s, exec i s = .next (f s))
    (hf : ∀ u s, f (withRx u s) = withRx u (f s)) {s t : State} (h : exec i s = .next t) :
    t.rx = s.rx ∧ ∀ x : RxUnit, exec i { s with rx := x } = .next { t with rx := x } := by
  rw [hexec] at h
  cases h
  have hself : f s = withRx s.rx (f s) := hf s.rx s
  exact ⟨by rw [hself, withRx_rx], fun x => (hexec _).trans (congrArg Host.Outcome.next (hf x s))⟩

/-! #### The receive sequencer around a transmit unit and queue -/

section
variable (u : TxUnit) (q : List TxEntry) (s : State)

/-- A choice each of whose branches commutes with the transmit unit and queue. -/
theorem ite_withTransmit {p : Prop} [Decidable p] {a b a' b' : State} (ha : a' = withTransmit u q a)
    (hb : b' = withTransmit u q b) : (if p then a' else b') = withTransmit u q (if p then a else b) := by
  rw [ha, hb, apply_ite (withTransmit u q)]

theorem pushPlq_withTransmit (r : PayloadRecord) :
    pushPlq r (withTransmit u q s) = withTransmit u q (pushPlq r s) :=
  ite_withTransmit u q rfl (raise_withTransmit u q s .plqOvf)

theorem reportRssi_withTransmit (has : Bool) (rssi : BitVec 16) :
    reportRssi has rssi (withTransmit u q s) = withTransmit u q (reportRssi has rssi s) :=
  ite_withTransmit u q (emit_withTransmit u q s _) rfl

theorem feedReport_withTransmit (r : FeedResult) :
    feedReport r (withTransmit u q s) = withTransmit u q (feedReport r s) := by
  cases r with
  | stored n => rfl
  | golayFail => exact raise_withTransmit u q s .golay
  | badPos => exact raise_withTransmit u q s .lichPos

theorem runningFeed_withTransmit (f : RfFrame) :
    runningFeed f (withTransmit u q s) = withTransmit u q (runningFeed f s) := by
  have hfailed {result : FeedResult} {k : ErrCode} (hk : feedError result = some k)
      (h : feedLich s.cfg.codec s.rx.running (rxLich s.cfg.codec f) = (s.rx.running, result)) :
      runningFeed f (withTransmit u q s) = withTransmit u q (runningFeed f s) := by
    rw [runningFeed_of_failed h hk, runningFeed_of_failed (s := withTransmit u q s) h hk, raise_withTransmit]
  obtain ⟨-, h⟩ | ⟨-, -, h⟩ | ⟨-, -, h⟩ := feedLich_cases s.cfg.codec s.rx.running (rxLich s.cfg.codec f)
  · exact hfailed rfl h
  · exact hfailed rfl h
  · rw [runningFeed_of_stored h, runningFeed_of_stored (s := withTransmit u q s) h]
    exact ite_withTransmit u q (congrArg (withRx _) (emit_withTransmit u q s _)) rfl

theorem pushAndFeed_withTransmit (r : PayloadRecord) (f : RfFrame) :
    pushAndFeed r f (withTransmit u q s) = withTransmit u q (pushAndFeed r f s) := by
  refine ite_withTransmit u q ?listed ?run
  case listed => rw [runningFeed_withTransmit, pushPlq_withTransmit]
  case run => rw [pushPlq_withTransmit, runningFeed_withTransmit]

theorem callEnd_withTransmit (reason : EndReason) :
    callEnd reason (withTransmit u q s) = withTransmit u q (callEnd reason s) :=
  congrArg enterListening (emit_withTransmit u q s _)

theorem endOnEos_withTransmit (fn : BitVec 16) :
    endOnEos fn (withTransmit u q s) = withTransmit u q (endOnEos fn s) :=
  ite_withTransmit u q (callEnd_withTransmit u q s .eos) rfl

theorem callFrame_withTransmit (f : RfFrame) (feed : Bool) :
    callFrame f feed (withTransmit u q s) = withTransmit u q (callFrame f feed s) := by
  cases feed with
  | false =>
    rw [callFrame_first, callFrame_first, ← endOnEos_withTransmit, ← pushPlq_withTransmit]
    rfl
  | true =>
    rw [callFrame_later, callFrame_later, ← endOnEos_withTransmit, ← pushAndFeed_withTransmit]
    rfl

theorem startCall_withTransmit (st : RxState) (via : Via) (l : Lsf) :
    startCall st via l (withTransmit u q s) = withTransmit u q (startCall st via l s) := by
  rw [startCall, startCall, ← emit_withTransmit]
  rfl

theorem rejectLsf_withTransmit (cause : RejectCause) (l : Lsf) :
    rejectLsf cause l (withTransmit u q s) = withTransmit u q (rejectLsf cause l s) := by
  have hreport : reportReject cause l (withTransmit u q s) = withTransmit u q (reportReject cause l s) := by
    rw [reportReject, raise_withTransmit, emit_withTransmit, reportReject]
  rw [rejectLsf_eq, rejectLsf_eq, hreport, withTransmit_rx, withTransmit_rx, withRx_withTransmit,
    ← apply_ite (withTransmit u q)]
  rfl

theorem tryStart_withTransmit (late : Option RfFrame) :
    tryStart late (withTransmit u q s) = withTransmit u q (tryStart late s) := by
  have haccept : acceptLsf s.rx.primary.lsf (withTransmit u q s) = acceptLsf s.rx.primary.lsf s := rfl
  rw [tryStart, tryStart, withTransmit_rx, haccept]
  cases acceptLsf s.rx.primary.lsf s with
  | inl cause => exact rejectLsf_withTransmit u q s cause _
  | inr st =>
    cases late with
    | none => exact startCall_withTransmit u q s st .header _
    | some f =>
      exact (congrArg (callFrame f false) (startCall_withTransmit u q s st .lateEntry _)).trans
        (callFrame_withTransmit u q _ f false)

theorem headerPath_withTransmit (f : RfFrame) :
    headerPath f (withTransmit u q s) = withTransmit u q (headerPath f s) := by
  cases h : crcOk s.cfg.codec (rxHeader s.cfg.codec f) with
  | false =>
    rw [headerPath_of_crcFail h, headerPath_of_crcFail (s := withTransmit u q s) h, raise_withTransmit]
    rfl
  | true =>
    rw [headerPath_of_crcOk h, headerPath_of_crcOk (s := withTransmit u q s) h, ← tryStart_withTransmit]
    rfl

theorem latePath_withTransmit (f : RfFrame) :
    latePath f (withTransmit u q s) = withTransmit u q (latePath f s) := by
  rcases hfed : feedLich s.cfg.codec s.rx.primary (rxLich s.cfg.codec f) with ⟨b, r⟩
  rw [latePath_eq hfed, latePath_eq (s := withTransmit u q s) hfed, feedReport_withTransmit,
    withTransmit_cfg, withTransmit_rx, withRx_withTransmit, withRx_withTransmit, tryStart_withTransmit,
    ← apply_ite (withTransmit u q)]

theorem lostPath_withTransmit : lostPath (withTransmit u q s) = withTransmit u q (lostPath s) := by
  have hend : (if inCall s.rx.state = true then callEnd .lost (withTransmit u q s)
      else enterListening (withTransmit u q s)) =
      withTransmit u q (if inCall s.rx.state = true then callEnd .lost s else enterListening s) :=
    ite_withTransmit u q (callEnd_withTransmit u q s .lost) rfl
  exact congrArg (fun t : State => withRx { t.rx with rejLatch := false } t) hend

theorem eotPath_withTransmit : eotPath (withTransmit u q s) = withTransmit u q (eotPath s) :=
  ite_withTransmit u q (callEnd_withTransmit u q s .eot) rfl

theorem doTagHeader_withTransmit (f : RfFrame) (has : Bool) (rssi : BitVec 16) :
    doTagHeader f has rssi (withTransmit u q s) = withTransmit u q (doTagHeader f has rssi s) := by
  refine ite_withTransmit u q (raise_withTransmit u q s .sync) ?_
  rw [reportRssi_withTransmit]
  exact ite_withTransmit u q rfl (headerPath_withTransmit u q _ f)

theorem doTagData_withTransmit (f : RfFrame) (has : Bool) (rssi : BitVec 16) :
    doTagData f has rssi (withTransmit u q s) = withTransmit u q (doTagData f has rssi s) := by
  refine ite_withTransmit u q (raise_withTransmit u q s .sync) ?_
  rw [reportRssi_withTransmit]
  exact ite_withTransmit u q (callFrame_withTransmit u q _ f true) (latePath_withTransmit u q _ f)

theorem doTagLost_withTransmit (has : Bool) (rssi : BitVec 16) :
    doTagLost has rssi (withTransmit u q s) = withTransmit u q (doTagLost has rssi s) := by
  rw [doTagLost, reportRssi_withTransmit, lostPath_withTransmit, doTagLost]

theorem doTagEot_withTransmit (has : Bool) (rssi : BitVec 16) :
    doTagEot has rssi (withTransmit u q s) = withTransmit u q (doTagEot has rssi s) := by
  rw [doTagEot, reportRssi_withTransmit, eotPath_withTransmit, doTagEot]

theorem rxProcess_withTransmit (e : TaggedFrame) :
    rxProcess e (withTransmit u q s) = withTransmit u q (rxProcess e s) := by
  unfold rxProcess
  exact ite_withTransmit u q (doTagHeader_withTransmit u q s _ _ _) <|
    ite_withTransmit u q (doTagData_withTransmit u q s _ _ _) <|
    ite_withTransmit u q (reportRssi_withTransmit u q s _ _) <|
    ite_withTransmit u q (doTagLost_withTransmit u q s _ _) <|
    ite_withTransmit u q (doTagEot_withTransmit u q s _ _) rfl

/-- The record comes from `SCR_IN` alone (R430). -/
theorem injectedRecord_withTransmit (tag : BitVec 3) (has : Bool) :
    injectedRecord tag has (withTransmit u q s) = injectedRecord tag has s := rfl

theorem doRxInject_withTransmit (tag : BitVec 3) (has : Bool) :
    doRxInject tag has (withTransmit u q s) = withTransmit u q (doRxInject tag has s) := by
  obtain h | h := Nat.lt_or_ge 4 tag.toNat
  · rw [doRxInject_of_lt h, doRxInject_of_lt h, raise_withTransmit]
  · rw [doRxInject_of_le h, doRxInject_of_le h, injectedRecord_withTransmit, rxProcess_withTransmit]
    rfl

end

/-- An instruction that commutes with every transmit unit and queue. -/
theorem exec_apart_from_tx {i : Instr} {f : State → State} (hexec : ∀ s, exec i s = .next (f s))
    (hf : ∀ u q s, f (withTransmit u q s) = withTransmit u q (f s)) {s t : State} (h : exec i s = .next t) :
    t.tx = s.tx ∧ t.txq = s.txq ∧ ∀ x : TxUnit, exec i { s with tx := x } = .next { t with tx := x } := by
  rw [hexec] at h
  cases h
  have hself : f s = withTransmit s.tx s.txq (f s) := hf s.tx s.txq s
  have htxq : (f s).txq = s.txq := by rw [hself, withTransmit_txq]
  refine ⟨by rw [hself, withTransmit_tx], htxq, fun x => (hexec _).trans (congrArg Host.Outcome.next ?_)⟩
  exact (hf x s.txq s).trans (by rw [← htxq, withTransmit_eq_withTx]; rfl)

/-- Settles O37: each command's meaning commutes with the other unit. -/
theorem transmitAndReceiveIndependent : Obligations.TransmitAndReceiveIndependent := by
  unfold Obligations.TransmitAndReceiveIndependent
  refine fun s t i h => ⟨fun htransmit => ?transmit, fun hreceive => ?receive⟩
  case transmit =>
    obtain rfl | ⟨eos, rfl⟩ | rfl | rfl := htransmit
    · exact exec_apart_from_rx (fun _ => rfl) doTxStart_withRx h
    · exact exec_apart_from_rx (fun _ => rfl) (fun u s => doTxPayload_withRx u s eos) h
    · exact exec_apart_from_rx (fun _ => rfl) doTxEnd_withRx h
    · exact exec_apart_from_rx (f := doTxNextLsf) (fun _ => rfl) (fun _ _ => rfl) h
  case receive =>
    obtain ⟨tag, has, rfl⟩ | rfl | ⟨_, f, has, rssi, rfl⟩ | ⟨_, f, has, rssi, rfl⟩ |
      ⟨_, _, has, rssi, rfl⟩ | ⟨_, _, has, rssi, rfl⟩ | ⟨_, _, has, rssi, rfl⟩ := hreceive
    · exact exec_apart_from_tx (fun _ => rfl) (fun u q s => doRxInject_withTransmit u q s tag has) h
    · exact exec_apart_from_tx (f := doRxReset) (fun _ => rfl) (fun _ _ _ => rfl) h
    · exact exec_apart_from_tx (fun _ => rfl) (fun u q s => doTagHeader_withTransmit u q s f has rssi) h
    · exact exec_apart_from_tx (fun _ => rfl) (fun u q s => doTagData_withTransmit u q s f has rssi) h
    · exact exec_apart_from_tx (fun _ => rfl) (fun u q s => reportRssi_withTransmit u q s has rssi) h
    · exact exec_apart_from_tx (fun _ => rfl) (fun u q s => doTagLost_withTransmit u q s has rssi) h
    · exact exec_apart_from_tx (fun _ => rfl) (fun u q s => doTagEot_withTransmit u q s has rssi) h

end Sys2Proof.Machine
end

section
/-! ### The link commands and the inbound serial frames (47_serial_engine.md R517, R521 to R533, R540, R560 to R562)

Each operation of the link has one equation per case of its rule; the obligations put these together. -/

namespace Sys2Proof.Machine

/-! #### The frame writer (R540) -/

theorem serFrame_of_le {p : List Byte} (h : p.length ≤ 252) (type : Byte) (c : SerialCodes) :
    serFrame type p c = c.start :: BitVec.ofNat 8 (p.length + 3) :: type :: p := if_pos (by omega)

theorem serFrame_of_lt {p : List Byte} (h : 252 < p.length) (type : Byte) (c : SerialCodes) :
    serFrame type p c = c.start :: c.lenEscape :: BitVec.ofNat 8 (p.length + 4 - c.len2Bias) :: type :: p :=
  if_neg (by omega)

/-! #### Types (R213, R517) -/

theorem SerialCodes.wf_iff (c : SerialCodes) :
    c.wf = true ↔ c.types.Nodup ∧ c.lenEscape.toNat < 3 ∧ 5 ≤ c.len2Bias ∧ c.len2Bias ≤ 257 := by
  simp only [SerialCodes.wf, Bool.and_eq_true, decide_eq_true_eq, and_assoc]

/-- In a table whose keys differ, each row is the one its key finds. -/
theorem lookup_eq_some_of_mem {α : Type} {table : List (Byte × α)} (hkeys : (table.map Prod.fst).Nodup) {k : Byte}
    {v : α} (hmem : (k, v) ∈ table) : table.lookup k = some v := by
  induction table with
  | nil => cases hmem
  | cons row rest ih =>
    rw [List.map_cons, List.nodup_cons] at hkeys
    obtain ⟨hfirst, hrest⟩ := hkeys
    obtain rfl | hlater := List.mem_cons.mp hmem
    · exact List.lookup_cons_self
    · have hne : k ≠ row.1 := fun h => hfirst (h ▸ List.mem_map_of_mem hlater)
      rw [List.lookup_cons, beq_false_of_ne hne]
      exact ih hrest hlater

theorem lookup_serTable_eq_none {c : SerialCodes} {t : Byte} (h : t ∉ c.types) : (serTable c).lookup t = none := by
  rw [List.lookup_eq_none_iff]
  intro row hrow
  rw [bne_iff_ne]
  rintro rfl
  exact h (List.mem_map_of_mem hrow)

/-- R517: a type that finds no row, or the row of a type that only the block sends. -/
theorem handleFrame_of_unknown {t : Byte} {s : State} (h : t ∉ s.cfg.serial.types) (p : List Byte) :
    handleFrame t p s = raise .serUnknown s := by
  rw [handleFrame, decodeSerBody, lookup_serTable_eq_none h]

theorem handleFrame_of_sendOnly {t : Byte} {s : State} (hc : s.cfg.serial.wf = true) {row : List Byte → Instr}
    (hmem : (t, row) ∈ serTable s.cfg.serial)
    (hrow : row = .serSetConfig ∨ row = .serSetMode ∨ row = .serSetFreq) (p : List Byte) :
    handleFrame t p s = raise .serUnknown s := by
  have hkeys : ((serTable s.cfg.serial).map Prod.fst).Nodup := ((SerialCodes.wf_iff _).mp hc).1
  rw [handleFrame, decodeSerBody, lookup_eq_some_of_mem hkeys hmem]
  obtain rfl | rfl | rfl := hrow <;> rfl

/-- Settles O4: such a type finds no row, or its own. -/
theorem unexpectedSerialTypesDropped : Obligations.UnexpectedSerialTypesDropped := by
  unfold Obligations.UnexpectedSerialTypesDropped
  refine ⟨fun t p s => ⟨fun h => handleFrame_of_unknown h p, fun hc ht => ?sendOnly, rfl, rfl, rfl⟩, rfl, rfl⟩
  case sendOnly =>
    simp only [List.mem_cons, List.not_mem_nil, or_false] at ht
    obtain rfl | rfl | rfl := ht
    · exact handleFrame_of_sendOnly hc (row := .serSetConfig) (by simp [serTable]) (.inl rfl) p
    · exact handleFrame_of_sendOnly hc (row := .serSetMode) (by simp [serTable]) (.inr (.inl rfl)) p
    · exact handleFrame_of_sendOnly hc (row := .serSetFreq) (by simp [serTable]) (.inr (.inr rfl)) p

/-! #### The link commands (R560 to R562) -/

/-- LINK_OPEN from CLOSED or BACKOFF (R560): the reopening flag is `reopen`, a backoff wait ends. -/
def requestOpen (reopen : Bool) (s : State) : State :=
  { s with
    link := { s.link with state := .version, autoReopen := reopen }
    timers := { s.timers with backoff := timerStop s.timers.backoff } }

section
variable {s : State}

theorem doLinkOpen_of_closed (h : s.link.state = .closed) : doLinkOpen s = requestOpen false s := by
  rw [doLinkOpen, h]
  rfl

theorem doLinkOpen_of_backoff (h : s.link.state = .backoff) : doLinkOpen s = requestOpen s.link.autoReopen s := by
  rw [doLinkOpen, h]
  rfl

theorem doLinkOpen_of_refused (h : s.link.state ≠ .closed ∧ s.link.state ≠ .backoff) :
    doLinkOpen s = raise .linkState s := by
  obtain ⟨hclosed, hbackoff⟩ := h
  unfold doLinkOpen
  split
  · exact absurd ‹_› hclosed
  · exact absurd ‹_› hbackoff
  all_goals rfl

theorem doLinkSetMode_of_opened (hstate : s.link.state = .opened) (hpend : s.link.pendValid = false) (mode : Byte) :
    doLinkSetMode mode s = awaitReply s.cfg.serial.setMode (sendFrame s.cfg.serial.setMode [mode] s) :=
  if_neg (by rw [hstate, hpend]; decide)

theorem doLinkSetMode_of_refused (h : s.link.state ≠ .opened ∨ s.link.pendValid = true) (mode : Byte) :
    doLinkSetMode mode s = raise .linkState s := if_pos h

/-! #### Inbound M17 frames (R521, R522) -/

theorem m17Frame_of_not_opened (h : s.link.state ≠ .opened) (tag : BitVec 3) (p : List Byte) :
    m17Frame tag p s = s := if_pos h

theorem m17Frame_of_badLength (h : s.link.state = .opened) {p : List Byte} (hp : p.length ≠ 48 ∧ p.length ≠ 50)
    (tag : BitVec 3) : m17Frame tag p s = raise .serLen s :=
  (if_neg (not_not_intro h)).trans (if_pos hp)

theorem m17Frame_of_48 (h : s.link.state = .opened) {p : List Byte} (hp : p.length = 48) (tag : BitVec 3) :
    m17Frame tag p s = pushRxq ⟨tag, true, seqOfBytes 384 p, false, 0#16⟩ s := by
  have htake : p.take 48 = p := List.take_of_length_le (Nat.le_of_eq hp)
  rw [m17Frame, if_neg (not_not_intro h), if_neg (fun hne => hne.1 hp), htake, hp]
  rfl

theorem m17Frame_of_50 (h : s.link.state = .opened) {p : List Byte} (hp : p.length = 50) (tag : BitVec 3) :
    m17Frame tag p s =
      pushRxq ⟨tag, true, seqOfBytes 384 (p.take 48), true, p.getD 48 0#8 ++ p.getD 49 0#8⟩ s := by
  have hrssi : p.drop 48 = [p.getD 48 0#8, p.getD 49 0#8] := by
    rw [List.drop_eq_getElem_cons (by omega), List.drop_eq_getElem_cons (by omega),
      List.drop_of_length_le (by omega), List.getD_eq_getElem _ _ (by omega), List.getD_eq_getElem _ _ (by omega)]
  rw [m17Frame, if_neg (not_not_intro h), if_neg (fun hne => hne.2 hp), hrssi, seqOfBytes_pair, hp]
  rfl

/-! #### Version replies (R523, R528) -/

/-- A supported version `v` becomes the negotiated one, and its configuration is sent. -/
theorem versionReply_of_supported (hstate : s.link.state = .version) (hpend : s.link.pendValid = true) {v : Byte}
    (hv : v ∈ s.cfg.versions) :
    versionReply v s = sendConfig { s with link := { s.link with protoVersion := v } } := by
  rw [versionReply, if_neg (by rw [hstate, hpend]; decide), if_pos (List.contains_iff_mem.mpr hv)]

theorem versionReply_of_unsupported (hstate : s.link.state = .version) (hpend : s.link.pendValid = true) {v : Byte}
    (hv : v ∉ s.cfg.versions) : versionReply v s = raise .badVersion s := by
  rw [versionReply, if_neg (by rw [hstate, hpend]; decide), if_neg (fun h => hv (List.contains_iff_mem.mp h))]

theorem versionReply_of_unawaited (h : s.link.state ≠ .version ∨ s.link.pendValid = false) (v : Byte) :
    versionReply v s = s := if_pos h

/-! #### Status replies (R526) -/

/-- The state a status reply in OPEN leaves, its three bytes read at the offsets of `l`. -/
def statusRead (l : StatusLayout) (p : List Byte) (s : State) : State :=
  { s with
    link := { s.link with
      modemMode := p.getD l.modeOff 0#8, modemFlags := p.getD l.flagsOff 0#8, space := p.getD l.spaceOff 0#8 }
    timers := { s.timers with wd := timerStop s.timers.wd } }

theorem statusReply_of_not_opened (h : s.link.state ≠ .opened) (p : List Byte) : statusReply p s = s := if_pos h

theorem statusReply_of_short (h : s.link.state = .opened) {p : List Byte} (hp : p.length < (statusLayout s).minLen) :
    statusReply p s = raise .serLen s := (if_neg (not_not_intro h)).trans (if_pos hp)

theorem statusReply_of_opened (h : s.link.state = .opened) {p : List Byte} (hp : (statusLayout s).minLen ≤ p.length) :
    statusReply p s = statusRead (statusLayout s) p s :=
  (if_neg (not_not_intro h)).trans (if_neg (Nat.not_lt_of_le hp))

/-! #### ACK and NAK (R524, R525) -/

theorem awaitsAck_iff (s : State) :
    awaitsAck s = true ↔ s.link.pendValid = true ∧
      s.link.pendCmd ∈ [s.cfg.serial.setConfig, s.cfg.serial.setMode, s.cfg.serial.setFreq] := by
  simp only [awaitsAck, Bool.and_eq_true, Bool.or_eq_true, decide_eq_true_eq, List.mem_cons, List.not_mem_nil, or_false]
  tauto

theorem not_awaitsAck {s : State} (h : s.link.pendValid = false ∨
    s.link.pendCmd ∉ [s.cfg.serial.setConfig, s.cfg.serial.setMode, s.cfg.serial.setFreq]) : ¬awaitsAck s = true := by
  rw [awaitsAck_iff]
  rintro ⟨hpend, hcmd⟩
  exact h.elim (fun hoff => by rw [hoff] at hpend; cases hpend) (fun hnot => hnot hcmd)

theorem ackReply_of_unawaited (h : ¬awaitsAck s = true) (c : Byte) : ackReply c s = s := if_neg h

theorem ackReply_in_config (h : awaitsAck s = true) (hstate : s.link.state = .config) (c : Byte) :
    ackReply c s = sendFreq s := by rw [ackReply, if_pos h, hstate]

theorem ackReply_in_freq (h : awaitsAck s = true) (hstate : s.link.state = .freq) (c : Byte) :
    ackReply c s = openSucceeded s := by rw [ackReply, if_pos h, hstate]

theorem ackReply_in_opened (h : awaitsAck s = true) (hstate : s.link.state = .opened) (c : Byte) :
    ackReply c s = endReply (emit (.ackNak 0x70#8 c 0#8) s) := by rw [ackReply, if_pos h, hstate]

/-- R531: the state in which the link opens, before its event. -/
def openedLink (s : State) : State :=
  { s with
    link := { s.link with
      state := .opened, pendValid := false, tries := 0#8, linkErr := false, autoReopen := false, space := 0#8 }
    timers := { s.timers with resp := timerStop s.timers.resp, poll := timerStart, wd := timerStart }
    serialOut := s.serialOut ++ [s.cfg.serial.start, 0x03#8, s.cfg.serial.getStatus] }

theorem openSucceeded_eq (s : State) :
    openSucceeded s = emit (.link .opened s.link.protoVersion) (openedLink s) := rfl

/-- A reply that ends the outstanding command after errors and events only. -/
theorem endReply_eq {s t : State} (hlink : t.link = s.link) (htimers : t.timers = s.timers) :
    endReply t = { t with
      link := { s.link with pendValid := false, tries := 0#8 }
      timers := { s.timers with resp := timerStop s.timers.resp } } := by
  rw [endReply, hlink, htimers]

/-- A NAK recorded and reported (R525). -/
def nakRecorded (c r : Byte) (s : State) : State :=
  emit (.ackNak 0x7F#8 c r) { s with link := { s.link with lastNak := r } }

theorem nakReply_of_unawaited (h : ¬awaitsAck s = true) (c r : Byte) : nakReply c r s = s := if_neg h

theorem nakRecorded_state (c r : Byte) (s : State) : (nakRecorded c r s).link.state = s.link.state := by
  rw [nakRecorded, emit_link]

theorem nakReply_while_opening (h : awaitsAck s = true) (hstate : s.link.state = .config ∨ s.link.state = .freq)
    (c r : Byte) : nakReply c r s = openFail .nak (nakRecorded c r s) := by
  have hrecorded := nakRecorded_state c r s
  rw [nakReply, if_pos h]
  obtain hs | hs := hstate
  all_goals
    rw [hs, nakRecorded] at hrecorded
    dsimp only
    rw [hrecorded]
    rfl

theorem nakReply_in_opened (h : awaitsAck s = true) (hstate : s.link.state = .opened) (c r : Byte) :
    nakReply c r s = endReply (raise .nak (nakRecorded c r s)) := by
  have hrecorded := nakRecorded_state c r s
  rw [nakReply, if_pos h]
  rw [hstate, nakRecorded] at hrecorded
  dsimp only
  rw [hrecorded]
  rfl

/-- No more than its record, where a NAK answers nothing that was sent (log 9). -/
theorem nakReply_elsewhere (h : awaitsAck s = true) (hopening : ¬(s.link.state = .config ∨ s.link.state = .freq))
    (hopened : s.link.state ≠ .opened) (c r : Byte) : nakReply c r s = nakRecorded c r s := by
  have hrecorded := nakRecorded_state c r s
  rw [nakReply, if_pos h]
  cases hstate : s.link.state <;> rw [hstate] at hopening hopened hrecorded
  case closed | version | backoff =>
    rw [nakRecorded] at hrecorded
    dsimp only
    rw [hrecorded]
    rfl
  case opened => exact absurd rfl hopened
  case config => exact absurd (.inl rfl) hopening
  case freq => exact absurd (.inr rfl) hopening

/-- The link state a failed open leaves (R532). -/
def afterFail (s : State) : LinkState := if s.link.autoReopen = true then .backoff else .closed

/-- R532, R533: the state in which a failed open ends, before its event. -/
def failedOpen (s : State) : State :=
  { s with
    parser := { s.parser with pos := .start, off := 0#16, len := 0#16, type := 0#8 }
    link := { s.link with
      state := afterFail s, portOpen := false, pendValid := false, pendCmd := 0#8, tries := 0#8
      protoVersion := 0#8, space := 0#8 }
    timers :=
      ⟨timerStop s.timers.poll, timerStop s.timers.wd, timerStop s.timers.pace,
        if s.link.autoReopen = true then timerStart else timerStop s.timers.backoff, timerStop s.timers.resp⟩
    txq := [] }

theorem afterFail_of_link_eq {s t : State} (h : t.link = s.link) : afterFail t = afterFail s := by
  rw [afterFail, afterFail, h]

theorem openFail_eq (k : ErrCode) (s : State) :
    openFail k s = emit (.link (afterFail s) 0#8) (failedOpen (raise .openFail (raise k s))) := by
  have hfailed (t : State) : (if (closeLink t).link.autoReopen = true then enterBackoff (closeLink t)
      else { closeLink t with link := { (closeLink t).link with state := .closed } }) = failedOpen t := by
    by_cases h : t.link.autoReopen = true
    · rw [failedOpen, afterFail, if_pos h, if_pos h]
      exact if_pos h
    · rw [failedOpen, afterFail, if_neg h, if_neg h]
      exact if_neg h
  have hlink : (raise .openFail (raise k s)).link = s.link := (raise_link _ _).trans (raise_link _ _)
  have hstate : (failedOpen (raise .openFail (raise k s))).link.state = afterFail s := afterFail_of_link_eq hlink
  rw [openFail]
  dsimp only
  rw [hfailed, hstate]

end

/-! #### The obligations -/

/-- Settles O38, by the equation of each case. -/
theorem linkCommands : Obligations.LinkCommands := by
  unfold Obligations.LinkCommands
  intro s mode
  exact ⟨fun h => congrArg Host.Outcome.next (doLinkOpen_of_closed h),
    fun h => congrArg Host.Outcome.next (doLinkOpen_of_backoff h),
    fun h => congrArg Host.Outcome.next (doLinkOpen_of_refused h), rfl,
    fun hstate hpend => congrArg Host.Outcome.next (doLinkSetMode_of_opened hstate hpend mode),
    fun h => congrArg Host.Outcome.next (doLinkSetMode_of_refused h mode)⟩

/-- Settles O39: the three frames with a payload differ in their tag only. -/
theorem inboundM17Frames : Obligations.InboundM17Frames := by
  unfold Obligations.InboundM17Frames
  intro s p i tag queued
  refine ⟨fun hi => ?tagged, fun h => congrArg Host.Outcome.next (if_pos h),
    fun h => congrArg Host.Outcome.next (if_neg h)⟩
  case tagged =>
    have hexec : exec i s = .next (m17Frame tag p s) := by
      obtain ⟨rfl, rfl⟩ | ⟨rfl, rfl⟩ | ⟨rfl, rfl⟩ := hi <;> rfl
    rw [hexec]
    exact ⟨fun h hp => congrArg Host.Outcome.next (m17Frame_of_48 h hp tag),
      fun h hp => congrArg Host.Outcome.next (m17Frame_of_50 h hp tag),
      fun h h48 h50 => congrArg Host.Outcome.next (m17Frame_of_badLength h ⟨h48, h50⟩ tag),
      fun h => congrArg Host.Outcome.next (m17Frame_of_not_opened h tag p)⟩

/-- Settles O40, by the equation of each case. -/
theorem versionReplies : Obligations.VersionReplies := by
  unfold Obligations.VersionReplies
  intro s v rest
  exact ⟨fun hstate hpend hv => congrArg Host.Outcome.next (versionReply_of_supported hstate hpend hv),
    fun hstate hpend hv => congrArg Host.Outcome.next (versionReply_of_unsupported hstate hpend hv),
    fun h => congrArg Host.Outcome.next (versionReply_of_unawaited h v), rfl⟩

/-- Settles O41: the reply's layout is `statusLayout`, and a debug frame is one event. -/
theorem statusAndDebugFrames : Obligations.StatusAndDebugFrames := by
  unfold Obligations.StatusAndDebugFrames
  intro s p lay dbg
  exact ⟨fun h hp => congrArg Host.Outcome.next (statusReply_of_opened h hp),
    fun h hp => congrArg Host.Outcome.next (statusReply_of_short h hp),
    fun h => congrArg Host.Outcome.next (statusReply_of_not_opened h p), rfl, rfl, rfl, rfl, rfl⟩

/-- Settles O42, by the equation of each case. -/
theorem ackReplies : Obligations.AckReplies := by
  unfold Obligations.AckReplies
  intro s c rest
  refine ⟨fun h => ?awaited, fun h => congrArg Host.Outcome.next (ackReply_of_unawaited (not_awaitsAck h) c), rfl⟩
  case awaited =>
    have hawait := (awaitsAck_iff s).mpr h
    exact ⟨fun hstate => congrArg Host.Outcome.next (ackReply_in_config hawait hstate c),
      fun hstate => congrArg Host.Outcome.next (ackReply_in_freq hawait hstate c),
      fun hstate => congrArg Host.Outcome.next
        ((ackReply_in_opened hawait hstate c).trans (endReply_eq (emit_link _ _) (emit_timers _ _)))⟩

/-- Settles O43: the equations of a NAK, and `openFail_eq` with the fields that errors leave alone. -/
theorem nakRepliesAndOpenFailure : Obligations.NakRepliesAndOpenFailure := by
  unfold Obligations.NakRepliesAndOpenFailure
  refine ⟨?naks, ?fails⟩
  case naks =>
    intro s c r rest u
    refine ⟨fun h => ?awaited, fun h => ?unawaited, rfl, rfl⟩
    case awaited =>
      have hawait := (awaitsAck_iff s).mpr h
      refine ⟨fun hstate => congrArg Host.Outcome.next (nakReply_while_opening hawait hstate c r),
        fun hstate => congrArg Host.Outcome.next ((nakReply_in_opened hawait hstate c r).trans ?_)⟩
      have htimers : u.timers = s.timers := emit_timers _ _
      rw [← htimers]
      exact endReply_eq (raise_link .nak u) (raise_timers .nak u)
    case unawaited => exact congrArg Host.Outcome.next (nakReply_of_unawaited (not_awaitsAck h) c r)
  case fails =>
    intro s code u st
    have hparser : u.parser = s.parser := (raise_parser _ _).trans (raise_parser _ _)
    have hlink : u.link = s.link := (raise_link _ _).trans (raise_link _ _)
    have htimers : u.timers = s.timers := (raise_timers _ _).trans (raise_timers _ _)
    have hst : afterFail u = st := afterFail_of_link_eq hlink
    rw [← hparser, ← hlink, ← htimers, openFail_eq, ← afterFail_of_link_eq hlink, ← hst]
    rfl

end Sys2Proof.Machine
end

section
/-! ### What an instruction can do to the serial engine (47_serial_engine.md R501, R521 to R533, R560 to R562)

The parser, the link, the timers and the serial line are changed by the frames and the link commands only: of every
other operation there is one equation, `engineFields` is the same before and after. `EngineMove` lists what frames and
link commands do, and `exec_engineMove` says that an instruction does one of these. -/

namespace Sys2Proof.Machine

/-! #### The engine's fields -/

/-- What the serial engine reads and writes, but for its queues and the error and event registers. -/
def engineFields (s : State) : Params × Parser × LinkUnit × Timers × List Byte :=
  (s.cfg, s.parser, s.link, s.timers, s.serialOut)

theorem engineFields_eq_iff {s t : State} :
    engineFields t = engineFields s ↔ t.cfg = s.cfg ∧ t.parser = s.parser ∧ t.link = s.link ∧
      t.timers = s.timers ∧ t.serialOut = s.serialOut := by
  simp only [engineFields, Prod.mk.injEq]

/-- Both branches of a choice keep the fields. -/
theorem engineFields_ite {p : Prop} [Decidable p] {a b s : State} (ha : engineFields a = engineFields s)
    (hb : engineFields b = engineFields s) : engineFields (if p then a else b) = engineFields s := by
  split
  · exact ha
  · exact hb

/-- An operation done only under a condition keeps the fields if it does. -/
theorem engineFields_ite_self {p : Prop} [Decidable p] {a s : State} (ha : engineFields a = engineFields s) :
    engineFields (if p then a else s) = engineFields s := engineFields_ite ha rfl

/-! #### Errors, events, queues and stores -/

theorem emit_engineFields (ev : Event) (s : State) : engineFields (emit ev s) = engineFields s := by
  simp only [engineFields, emit_cfg, emit_parser, emit_link, emit_timers, emit_serialOut]

theorem raise_engineFields (k : ErrCode) (s : State) : engineFields (raise k s) = engineFields s := by
  simp only [engineFields, raise_cfg, raise_parser, raise_link, raise_timers, raise_serialOut]

theorem pushRxq_engineFields (e : TaggedFrame) (s : State) : engineFields (pushRxq e s) = engineFields s :=
  engineFields_ite rfl (raise_engineFields _ _)

theorem pushTxq_engineFields (e : TxEntry) (s : State) : engineFields (pushTxq e s) = engineFields s :=
  engineFields_ite rfl (raise_engineFields _ _)

theorem pushPlq_engineFields (r : PayloadRecord) (s : State) : engineFields (pushPlq r s) = engineFields s :=
  engineFields_ite rfl (raise_engineFields _ _)

theorem putScrOut_engineFields {n : Nat} (v : BitVec n) (s : State) : engineFields (putScrOut v s) = engineFields s :=
  rfl

theorem putDecoded_engineFields {n : Nat} (r : BitVec n × Nat × Nat) (s : State) :
    engineFields (putDecoded r s) = engineFields s := putScrOut_engineFields r.1 s

/-! #### The receive sequencer (45_rx_sequencer.md) -/

theorem feedReport_engineFields (r : FeedResult) (s : State) : engineFields (feedReport r s) = engineFields s := by
  cases r with
  | stored n => rfl
  | golayFail => exact raise_engineFields _ _
  | badPos => exact raise_engineFields _ _

theorem runningFeed_engineFields (f : RfFrame) (s : State) : engineFields (runningFeed f s) = engineFields s := by
  unfold runningFeed
  obtain ⟨buf, result⟩ := feedLich s.cfg.codec s.rx.running (rxLich s.cfg.codec f)
  cases result with
  | stored n => exact engineFields_ite (emit_engineFields _ _) rfl
  | golayFail => exact raise_engineFields _ _
  | badPos => exact raise_engineFields _ _

theorem pushAndFeed_engineFields (r : PayloadRecord) (f : RfFrame) (s : State) :
    engineFields (pushAndFeed r f s) = engineFields s :=
  engineFields_ite ((pushPlq_engineFields _ _).trans (runningFeed_engineFields _ _))
    ((runningFeed_engineFields _ _).trans (pushPlq_engineFields _ _))

theorem callEnd_engineFields (r : EndReason) (s : State) : engineFields (callEnd r s) = engineFields s :=
  emit_engineFields _ _

theorem callFrame_engineFields (f : RfFrame) (feed : Bool) (s : State) :
    engineFields (callFrame f feed s) = engineFields s :=
  (engineFields_ite_self (callEnd_engineFields _ _)).trans
    (engineFields_ite (pushAndFeed_engineFields _ _ _) (pushPlq_engineFields _ _))

theorem rejectLsf_engineFields (cause : RejectCause) (l : Lsf) (s : State) :
    engineFields (rejectLsf cause l s) = engineFields s :=
  engineFields_ite (a := s) rfl ((emit_engineFields _ _).trans (raise_engineFields _ _))

theorem tryStart_engineFields (late : Option RfFrame) (s : State) :
    engineFields (tryStart late s) = engineFields s := by
  unfold tryStart
  dsimp only
  split
  · exact rejectLsf_engineFields _ _ _
  · cases late with
    | none => exact emit_engineFields _ _
    | some f => exact (callFrame_engineFields _ _ _).trans (emit_engineFields _ _)

theorem headerPath_engineFields (f : RfFrame) (s : State) : engineFields (headerPath f s) = engineFields s :=
  engineFields_ite (tryStart_engineFields _ _) (raise_engineFields _ _)

theorem latePath_engineFields (f : RfFrame) (s : State) : engineFields (latePath f s) = engineFields s :=
  engineFields_ite ((tryStart_engineFields _ _).trans (feedReport_engineFields _ _)) (feedReport_engineFields _ _)

theorem lostPath_engineFields (s : State) : engineFields (lostPath s) = engineFields s :=
  engineFields_ite (callEnd_engineFields .lost s) (b := enterListening s) rfl

theorem eotPath_engineFields (s : State) : engineFields (eotPath s) = engineFields s :=
  engineFields_ite (callEnd_engineFields .eot s) (b := enterListening s) rfl

theorem reportRssi_engineFields (has : Bool) (rssi : BitVec 16) (s : State) :
    engineFields (reportRssi has rssi s) = engineFields s := engineFields_ite_self (emit_engineFields _ _)

theorem doTagHeader_engineFields (f : RfFrame) (has : Bool) (rssi : BitVec 16) (s : State) :
    engineFields (doTagHeader f has rssi s) = engineFields s :=
  engineFields_ite (raise_engineFields _ _)
    ((engineFields_ite rfl (headerPath_engineFields _ _)).trans (reportRssi_engineFields has rssi s))

theorem doTagData_engineFields (f : RfFrame) (has : Bool) (rssi : BitVec 16) (s : State) :
    engineFields (doTagData f has rssi s) = engineFields s :=
  engineFields_ite (raise_engineFields _ _)
    ((engineFields_ite (callFrame_engineFields _ _ _) (latePath_engineFields _ _)).trans
      (reportRssi_engineFields has rssi s))

theorem doTagLost_engineFields (has : Bool) (rssi : BitVec 16) (s : State) :
    engineFields (doTagLost has rssi s) = engineFields s :=
  (lostPath_engineFields _).trans (reportRssi_engineFields has rssi s)

theorem doTagEot_engineFields (has : Bool) (rssi : BitVec 16) (s : State) :
    engineFields (doTagEot has rssi s) = engineFields s :=
  (eotPath_engineFields _).trans (reportRssi_engineFields has rssi s)

theorem rxProcess_engineFields (e : TaggedFrame) (s : State) : engineFields (rxProcess e s) = engineFields s :=
  engineFields_ite (doTagHeader_engineFields _ _ _ _) <|
  engineFields_ite (doTagData_engineFields _ _ _ _) <|
  engineFields_ite (reportRssi_engineFields _ _ _) <|
  engineFields_ite (doTagLost_engineFields _ _ _) <|
  engineFields_ite_self (doTagEot_engineFields _ _ _)

theorem doRxInject_engineFields (tag : BitVec 3) (has : Bool) (s : State) :
    engineFields (doRxInject tag has s) = engineFields s :=
  engineFields_ite (raise_engineFields _ _) (rxProcess_engineFields _ _)

/-! #### The transmit builder and the host port (46_tx_builder.md, 48_host_port.md) -/

theorem doGenc_engineFields (d : BitVec 12) (s : State) : engineFields (doGenc d s) = engineFields s := by
  rw [engineFields_eq_iff]
  exact ⟨rfl, rfl, rfl, rfl, rfl⟩

theorem doGdec_engineFields (w : BitVec 24) (s : State) : engineFields (doGdec w s) = engineFields s := by
  rw [engineFields_eq_iff]
  exact ⟨rfl, rfl, rfl, rfl, rfl⟩

theorem doLdec_engineFields (s : State) : engineFields (doLdec s) = engineFields s :=
  putScrOut_engineFields (lichDecode s.cfg.codec (scrInSeq 96 s)).1 s

theorem doTxPayload_engineFields (eos : Bool) (s : State) : engineFields (doTxPayload eos s) = engineFields s := by
  by_cases h : s.tx.state = .none
  · rw [doTxPayload_of_none eos h, raise_engineFields]
  · have hheader : engineFields (headerFirst s) = engineFields s := engineFields_ite_self (pushTxq_engineFields _ s)
    have hlatch (u : State) : engineFields (latchLich u) = engineFields u := by rw [latchLich_eq]; rfl
    have hsent (u : State) : engineFields (sendPayload eos u) = engineFields u :=
      pushTxq_engineFields (streamFrame eos u) u
    rw [doTxPayload_of_ne_none eos h, hsent, hlatch, hheader]

theorem doTxEnd_engineFields (s : State) : engineFields (doTxEnd s) = engineFields s := by
  unfold doTxEnd
  cases s.tx.state with
  | none => exact raise_engineFields _ _
  | header => rfl
  | audio | ending => exact pushTxq_engineFields _ _

theorem doEvPop_engineFields (s : State) : engineFields (doEvPop s) = engineFields s := by
  unfold doEvPop
  cases s.evq <;> rfl

theorem doPlPop_engineFields (s : State) : engineFields (doPlPop s) = engineFields s := by
  unfold doPlPop
  cases s.plq <;> rfl

theorem doRd_engineFields (sel : Byte) (s : State) : engineFields (doRd sel s) = engineFields s := by
  unfold doRd
  cases readReg sel s with
  | some v => rfl
  | none => exact raise_engineFields _ _

theorem doBrd_engineFields (sp : Byte) (off : BitVec 16) (s : State) :
    engineFields (doBrd sp off s) = engineFields s := by
  unfold doBrd
  obtain ⟨_, _, -, -, h⟩ | h := hostBufRead_cases sp off.toNat s
  · rw [h]; rfl
  · rw [h]; exact raise_engineFields _ _

theorem doBwr_engineFields (sp : Byte) (off : BitVec 16) (data : Byte) (s : State) :
    engineFields (doBwr sp off data s) = engineFields s := by
  unfold doBwr
  obtain ⟨_, -, -, h⟩ | h := hostBufWrite_cases sp off.toNat data s
  · rw [h]; rfl
  · rw [h]; exact raise_engineFields _ _

/-- What a register write can do: a write to `CMD` runs its command, every other leaves the engine alone (R582). -/
theorem writeReg_cases (sel : Byte) (data : Word) (s : State) :
    engineFields (writeReg sel data s) = engineFields s ∨
      ∃ i, isCommand i = true ∧ exec i s = .next (writeReg sel data s) := by
  unfold writeReg
  split
  iterate 5 exact .inl rfl
  · exact (execute_cases data s).imp_left fun h => by rw [h]; exact raise_engineFields _ _
  · exact .inl (raise_engineFields _ _)

/-! #### The moves of the engine -/

/-- CLOSED on the host's command (R561), before its event. -/
def closedLink (s : State) : State :=
  { closeLink s with link := { (closeLink s).link with state := .closed, autoReopen := false } }

/-- A NAK's reason kept (R525). -/
def withLastNak (r : Byte) (s : State) : State := { s with link := { s.link with lastNak := r } }

/-- What instruction `i` can do to the engine in state `s`, each with the condition under which it does. -/
inductive EngineMove (s : State) (i : Instr) : State → Prop
  | same : EngineMove s i s
  | openRequested (reopen : Bool)
      (hstate : (s.link.state = .closed ∧ reopen = false) ∨ (s.link.state = .backoff ∧ reopen = s.link.autoReopen)) :
      EngineMove s i (requestOpen reopen s)
  | closed : EngineMove s i (closedLink s)
  | modeSent (mode : Byte) (hstate : s.link.state = .opened) (hpend : s.link.pendValid = false) :
      EngineMove s i (awaitReply s.cfg.serial.setMode (sendFrame s.cfg.serial.setMode [mode] s))
  | configSent (v : Byte) (hstate : s.link.state = .version) (hpend : s.link.pendValid = true)
      (hv : v ∈ s.cfg.versions) :
      EngineMove s i (sendConfig { s with link := { s.link with protoVersion := v } })
  | freqSent (hstate : s.link.state = .config) (hpend : s.link.pendValid = true) : EngineMove s i (sendFreq s)
  | opened (c : Byte) (rest : List Byte) (hi : i = .serAck (c :: rest)) (hstate : s.link.state = .freq)
      (hpend : s.link.pendValid = true) : EngineMove s i (openedLink s)
  | nakRecorded (r : Byte) : EngineMove s i (withLastNak r s)
  | replyEnded (r : Byte) (hstate : s.link.state = .opened) : EngineMove s i (endReply (withLastNak r s))
  | openFailed (r : Byte) : EngineMove s i (failedOpen (withLastNak r s))
  | statusRead (l : StatusLayout) (p : List Byte) (hstate : s.link.state = .opened) :
      EngineMove s i (statusRead l p s)

/-- From `s` to `t` the engine makes a move of `i`, or does nothing. -/
def engineMoves (s : State) (i : Instr) (t : State) : Prop :=
  ∃ u, EngineMove s i u ∧ engineFields t = engineFields u

section
variable {s t : State} {i : Instr}

theorem engineMoves_of_same (h : engineFields t = engineFields s) : engineMoves s i t := ⟨s, .same, h⟩

theorem endReply_engineFields_congr (h : engineFields t = engineFields s) :
    engineFields (endReply t) = engineFields (endReply s) := by
  obtain ⟨hcfg, hparser, hlink, htimers, hout⟩ := engineFields_eq_iff.mp h
  simp only [engineFields, endReply, hcfg, hparser, hlink, htimers, hout]

theorem failedOpen_engineFields_congr (h : engineFields t = engineFields s) :
    engineFields (failedOpen t) = engineFields (failedOpen s) := by
  obtain ⟨hcfg, hparser, hlink, htimers, hout⟩ := engineFields_eq_iff.mp h
  simp only [engineFields, failedOpen, afterFail, hcfg, hparser, hlink, htimers, hout]

/-- What an open that fails does to the engine, its errors and its event apart. -/
theorem openFail_engineFields (k : ErrCode) (s : State) :
    engineFields (openFail k s) = engineFields (failedOpen s) := by
  rw [openFail_eq, emit_engineFields]
  exact failedOpen_engineFields_congr ((raise_engineFields _ _).trans (raise_engineFields _ _))

theorem doLinkOpen_engineMoves (s : State) : engineMoves s i (doLinkOpen s) := by
  by_cases hclosed : s.link.state = .closed
  · exact ⟨_, .openRequested false (.inl ⟨hclosed, rfl⟩), by rw [doLinkOpen_of_closed hclosed]⟩
  · by_cases hbackoff : s.link.state = .backoff
    · exact ⟨_, .openRequested _ (.inr ⟨hbackoff, rfl⟩), by rw [doLinkOpen_of_backoff hbackoff]⟩
    · rw [doLinkOpen_of_refused ⟨hclosed, hbackoff⟩]
      exact engineMoves_of_same (raise_engineFields _ _)

theorem doLinkSetMode_engineMoves (mode : Byte) (s : State) : engineMoves s i (doLinkSetMode mode s) := by
  by_cases h : s.link.state ≠ .opened ∨ s.link.pendValid = true
  · rw [doLinkSetMode_of_refused h]
    exact engineMoves_of_same (raise_engineFields _ _)
  · obtain ⟨hstate, hpend⟩ := not_or.mp h
    exact ⟨_, .modeSent mode (not_not.mp hstate) (eq_false_of_ne_true hpend),
      by rw [doLinkSetMode_of_opened (not_not.mp hstate) (eq_false_of_ne_true hpend)]⟩

theorem versionReply_engineMoves (v : Byte) (s : State) : engineMoves s i (versionReply v s) := by
  by_cases h : s.link.state ≠ .version ∨ s.link.pendValid = false
  · rw [versionReply_of_unawaited h]
    exact engineMoves_of_same rfl
  · obtain ⟨hstate, hpend⟩ := not_or.mp h
    have hstate := not_not.mp hstate
    have hpend := eq_true_of_ne_false hpend
    by_cases hv : v ∈ s.cfg.versions
    · exact ⟨_, .configSent v hstate hpend hv, by rw [versionReply_of_supported hstate hpend hv]⟩
    · rw [versionReply_of_unsupported hstate hpend hv]
      exact engineMoves_of_same (raise_engineFields _ _)

theorem ackReply_engineMoves (c : Byte) (rest : List Byte) (s : State) :
    engineMoves s (.serAck (c :: rest)) (ackReply c s) := by
  by_cases h : awaitsAck s = true
  · obtain ⟨hpend, -⟩ := (awaitsAck_iff s).mp h
    cases hstate : s.link.state with
    | config => exact ⟨_, .freqSent hstate hpend, by rw [ackReply_in_config h hstate]⟩
    | freq =>
      refine ⟨_, .opened c rest rfl hstate hpend, ?_⟩
      rw [ackReply_in_freq h hstate, openSucceeded_eq, emit_engineFields]
    | opened =>
      refine ⟨_, .replyEnded s.link.lastNak hstate, ?_⟩
      rw [ackReply_in_opened h hstate]
      exact endReply_engineFields_congr (emit_engineFields _ s)
    | closed | version | backoff =>
      rw [ackReply, if_pos h, hstate]
      exact engineMoves_of_same rfl
  · rw [ackReply_of_unawaited h]
    exact engineMoves_of_same rfl

theorem nakReply_engineMoves (c r : Byte) (s : State) : engineMoves s i (nakReply c r s) := by
  have hrecorded : engineFields (nakRecorded c r s) = engineFields (withLastNak r s) := emit_engineFields _ _
  by_cases h : awaitsAck s = true
  · by_cases hopening : s.link.state = .config ∨ s.link.state = .freq
    · refine ⟨_, .openFailed r, ?_⟩
      rw [nakReply_while_opening h hopening, openFail_engineFields]
      exact failedOpen_engineFields_congr hrecorded
    · by_cases hopened : s.link.state = .opened
      · refine ⟨_, .replyEnded r hopened, ?_⟩
        rw [nakReply_in_opened h hopened]
        exact endReply_engineFields_congr ((raise_engineFields _ _).trans hrecorded)
      · rw [nakReply_elsewhere h hopening hopened]
        exact ⟨_, .nakRecorded r, hrecorded⟩
  · rw [nakReply_of_unawaited h]
    exact engineMoves_of_same rfl

theorem statusReply_engineMoves (p : List Byte) (s : State) : engineMoves s i (statusReply p s) := by
  by_cases h : s.link.state = .opened
  · by_cases hp : p.length < (statusLayout s).minLen
    · rw [statusReply_of_short h hp]
      exact engineMoves_of_same (raise_engineFields _ _)
    · rw [statusReply_of_opened h (Nat.le_of_not_lt hp)]
      exact ⟨_, .statusRead _ p h, rfl⟩
  · rw [statusReply_of_not_opened h]
    exact engineMoves_of_same rfl

/-- A command, run as itself or by a register write `i`. -/
theorem exec_command_engineMoves {j : Instr} (hj : isCommand j = true) (h : exec j s = .next t) :
    engineMoves s i t := by
  cases j
  case linkOpen => cases h; exact doLinkOpen_engineMoves s
  case linkClose => cases h; exact ⟨_, .closed, emit_engineFields _ _⟩
  case linkSetMode mode => cases h; exact doLinkSetMode_engineMoves mode s
  case rxInject tag has => cases h; exact engineMoves_of_same (doRxInject_engineFields _ _ _)
  case crc16 n | txStart => cases h; exact engineMoves_of_same (engineFields_ite (raise_engineFields _ _) rfl)
  case txPayload eos => cases h; exact engineMoves_of_same (doTxPayload_engineFields _ _)
  case txEnd => cases h; exact engineMoves_of_same (doTxEnd_engineFields _)
  case evPop => cases h; exact engineMoves_of_same (doEvPop_engineFields _)
  case plPop => cases h; exact engineMoves_of_same (doPlPop_engineFields _)
  case cencLsf | cencStr | ilv | dilv | scr | lenc => cases h; exact engineMoves_of_same (putScrOut_engineFields _ _)
  case cdecLsf | cdecLsfSoft | cdecStr | cdecStrSoft =>
    cases h; exact engineMoves_of_same (putDecoded_engineFields _ _)
  case ldec => cases h; exact engineMoves_of_same (doLdec_engineFields _)
  case genc d => cases h; exact engineMoves_of_same (doGenc_engineFields _ _)
  case gdec w => cases h; exact engineMoves_of_same (doGdec_engineFields _ _)
  case nop | rxReset | txNextLsf => cases h; exact engineMoves_of_same rfl
  all_goals cases hj

/-- What an instruction can do to the serial engine. -/
theorem exec_engineMoves (h : exec i s = .next t) : engineMoves s i t := by
  cases i
  case rd sel => cases h; exact engineMoves_of_same (doRd_engineFields _ _)
  case brd sp off => cases h; exact engineMoves_of_same (doBrd_engineFields _ _ _)
  case bwr sp off data => cases h; exact engineMoves_of_same (doBwr_engineFields _ _ _ _)
  case wr sel data =>
    cases h
    obtain hsame | ⟨j, hj, hexec⟩ := writeReg_cases sel data s
    · exact engineMoves_of_same hsame
    · obtain ⟨u, hmove, hu⟩ := exec_command_engineMoves hj hexec
      exact ⟨u, hmove, hu⟩
  case serGetVersion p =>
    cases h
    cases p with
    | nil => exact engineMoves_of_same (raise_engineFields _ _)
    | cons v rest => exact versionReply_engineMoves v s
  case serGetStatus p => cases h; exact statusReply_engineMoves p s
  case serSetConfig | serSetMode | serSetFreq => cases h; exact engineMoves_of_same (raise_engineFields _ _)
  case serM17LinkSetup | serM17Stream | serM17Packet =>
    cases h
    exact engineMoves_of_same
      (engineFields_ite rfl (engineFields_ite (raise_engineFields _ _) (pushRxq_engineFields _ _)))
  case serM17Lost p => cases h; exact engineMoves_of_same (engineFields_ite_self (pushRxq_engineFields _ _))
  case serAck p =>
    cases h
    cases p with
    | nil => exact engineMoves_of_same (raise_engineFields _ _)
    | cons c rest => exact ackReply_engineMoves c rest s
  case serNak p =>
    cases h
    match p with
    | [] | [_] => exact engineMoves_of_same (raise_engineFields _ _)
    | c :: r :: _ => exact nakReply_engineMoves c r s
  case serDebug1 | serDebug2 | serDebug3 | serDebug4 | serDebug5 =>
    cases h; exact engineMoves_of_same (emit_engineFields _ _)
  case tagHeader _ f has rssi => cases h; exact engineMoves_of_same (doTagHeader_engineFields f has rssi s)
  case tagData _ f has rssi => cases h; exact engineMoves_of_same (doTagData_engineFields f has rssi s)
  case tagData2 _ _ has rssi => cases h; exact engineMoves_of_same (reportRssi_engineFields has rssi s)
  case tagLost _ _ has rssi => cases h; exact engineMoves_of_same (doTagLost_engineFields has rssi s)
  case tagEot _ _ has rssi => cases h; exact engineMoves_of_same (doTagEot_engineFields has rssi s)
  all_goals exact exec_command_engineMoves rfl h

end

/-! #### What a link state says -/

/-- R589: the retry limits a configuration has. -/
def retryLimits (s : State) : Prop := 1 ≤ s.cfg.nVer ∧ s.cfg.nVer ≤ 255 ∧ 1 ≤ s.cfg.nAck ∧ s.cfg.nAck ≤ 255

/-- What `linkOk` says of OPEN. -/
def openedOk (s : State) : Prop :=
  s.link.portOpen = true ∧ s.link.protoVersion ∈ s.cfg.versions ∧
    (s.link.pendValid = true → s.link.pendCmd = s.cfg.serial.setMode) ∧
    s.timers.resp.run = s.link.pendValid ∧ s.timers.poll.run = true ∧ s.timers.backoff.run = false ∧
    s.link.linkErr = false ∧ s.link.autoReopen = false

section
variable {s : State} (hs : linkOk s)
include hs

theorem linkOk.limits : retryLimits s := hs.1

theorem linkOk.in_closed (h : s.link.state = .closed) :
    linkIdle s ∧ s.timers.backoff.run = false ∧ s.link.autoReopen = false := by
  obtain ⟨-, -, -, hstate⟩ := hs
  rw [h] at hstate
  exact hstate

theorem linkOk.in_backoff (h : s.link.state = .backoff) : linkIdle s ∧ s.timers.backoff.run = true := by
  obtain ⟨-, -, -, hstate⟩ := hs
  rw [h] at hstate
  exact hstate

theorem linkOk.in_version (h : s.link.state = .version) :
    (linkIdle s ∧ s.timers.backoff.run = false) ∨
      (linkAwaits s.cfg.serial.getVersion s ∧ s.link.protoVersion = 0#8) := by
  obtain ⟨-, -, -, hstate⟩ := hs
  rw [h] at hstate
  exact hstate

theorem linkOk.in_config (h : s.link.state = .config) :
    linkAwaits s.cfg.serial.setConfig s ∧ s.link.protoVersion ∈ s.cfg.versions := by
  obtain ⟨-, -, -, hstate⟩ := hs
  rw [h] at hstate
  exact hstate

theorem linkOk.in_freq (h : s.link.state = .freq) :
    linkAwaits s.cfg.serial.setFreq s ∧ s.link.protoVersion ∈ s.cfg.versions := by
  obtain ⟨-, -, -, hstate⟩ := hs
  rw [h] at hstate
  exact hstate

theorem linkOk.in_opened (h : s.link.state = .opened) : openedOk s := by
  obtain ⟨-, -, -, hstate⟩ := hs
  rw [h] at hstate
  exact hstate

end

theorem linkOk_of_opened {s : State} (hlimits : retryLimits s) (htries : s.link.tries.toNat ≤ max s.cfg.nVer s.cfg.nAck)
    (hzero : s.link.pendValid = false → s.link.tries = 0#8) (hstate : s.link.state = .opened) (h : openedOk s) :
    linkOk s := by
  refine ⟨hlimits, htries, hzero, ?_⟩
  rw [hstate]
  exact h

/-! #### Into OPEN, and onto the line -/

/-- Settles O46: of the moves only `opened` leads into OPEN. -/
theorem onlyAckOpensLink : Obligations.OnlyAckOpensLink := by
  unfold Obligations.OnlyAckOpensLink
  intro i s t h hbefore hafter
  obtain ⟨u, hmove, hfields⟩ := exec_engineMoves h
  obtain ⟨-, -, hlink, -⟩ := engineFields_eq_iff.mp hfields
  rw [hlink] at hafter
  cases hmove with
  | opened c rest hi hstate hpend => exact ⟨hstate, hpend, c, rest, hi⟩
  | openFailed r =>
    have hstate : afterFail (withLastNak r s) = .opened := hafter
    unfold afterFail at hstate
    split at hstate <;> cases hstate
  | same | nakRecorded | modeSent | replyEnded | statusRead => exact absurd hafter hbefore
  | openRequested | closed | configSent | freqSent => cases hafter

/-- A link that awaits a reply, or is open, has its port open. -/
theorem portOpen_of_linkOk {s : State} (hs : linkOk s) (h : s.link.pendValid = true ∨ s.link.state = .opened) :
    s.link.portOpen = true := by
  have hnotIdle (hidle : linkIdle s) (hst : s.link.state ≠ .opened) : s.link.portOpen = true := by
    obtain ⟨-, hpend, -⟩ := hidle
    exact absurd h (not_or.mpr ⟨by rw [hpend]; decide, hst⟩)
  cases hstate : s.link.state with
  | closed => exact hnotIdle (hs.in_closed hstate).1 (by rw [hstate]; nofun)
  | backoff => exact hnotIdle (hs.in_backoff hstate).1 (by rw [hstate]; nofun)
  | version =>
    obtain ⟨hidle, -⟩ | ⟨⟨hport, -⟩, -⟩ := hs.in_version hstate
    · exact hnotIdle hidle (by rw [hstate]; nofun)
    · exact hport
  | config =>
    obtain ⟨⟨hport, -⟩, -⟩ := hs.in_config hstate
    exact hport
  | freq =>
    obtain ⟨⟨hport, -⟩, -⟩ := hs.in_freq hstate
    exact hport
  | opened =>
    obtain ⟨hport, -⟩ := hs.in_opened hstate
    exact hport

/-- Settles O47: every move that sends a frame has its port open. -/
theorem closedPortWritesNothing : Obligations.ClosedPortWritesNothing := by
  unfold Obligations.ClosedPortWritesNothing
  intro i s t hs hport h
  obtain ⟨u, hmove, hfields⟩ := exec_engineMoves h
  obtain ⟨-, -, -, -, hout⟩ := engineFields_eq_iff.mp hfields
  rw [hout]
  have hshut (hopen : s.link.portOpen = true) : u.serialOut = s.serialOut := by rw [hport] at hopen; cases hopen
  cases hmove with
  | modeSent mode hstate hpend => exact hshut (portOpen_of_linkOk hs (.inr hstate))
  | configSent v hstate hpend hv => exact hshut (portOpen_of_linkOk hs (.inl hpend))
  | freqSent hstate hpend => exact hshut (portOpen_of_linkOk hs (.inl hpend))
  | opened c rest hi hstate hpend => exact hshut (portOpen_of_linkOk hs (.inl hpend))
  | same | openRequested | closed | nakRecorded | replyEnded | openFailed | statusRead => rfl

end Sys2Proof.Machine
end

section
/-! ### The drain of the transmit queue and the timer actions (47_serial_engine.md R529, R530, R540 to R547)

One equation for each action that is due and one for each that is not; a tick puts them one after another. -/

namespace Sys2Proof.Machine

/-! #### Phase 4 (R541, R542) -/

/-- R541: whether a frame may go out now. -/
def drainReady (s : State) : Prop :=
  s.link.state = .opened ∧ 1 < s.link.space.toNat ∧
    (s.timers.pace.run = false ∨ s.cfg.tPace ≤ s.timers.pace.el.toNat)

/-- R541, R542: the head `e` of the queue is written, one unit of credit used, the pacing timer restarted. -/
def frameDrained (e : TxEntry) (rest : List TxEntry) (s : State) : State :=
  { s with
    txq := rest
    serialOut := s.serialOut ++ serFrame (outboundType s.cfg e.tag) (bytesOfSeq e.frame) s.cfg.serial
    link := { s.link with space := s.link.space - 1#8 }
    timers := { s.timers with pace := timerStart } }

section
variable {s : State}

theorem drainReady_iff : drainReady s ↔ s.link.state = .opened ∧ 1 < s.link.space.toNat ∧
    (s.timers.pace.run = false ∨ timerExpired s.timers.pace s.cfg.tPace = true) := by
  rw [drainReady, timerExpired_iff]
  cases s.timers.pace.run <;> simp

theorem txDrain_of_ready (h : drainReady s) {e : TxEntry} {rest : List TxEntry} (hq : s.txq = e :: rest) :
    txDrain s = frameDrained e rest s := by
  rw [txDrain, if_pos (drainReady_iff.mp h), hq]
  rfl

theorem txDrain_of_not_ready (h : ¬drainReady s) : txDrain s = s := if_neg fun hready => h (drainReady_iff.mpr hready)

theorem txDrain_of_txq_nil (h : s.txq = []) : txDrain s = s := by
  rw [txDrain, h]
  exact ite_self s

/-- What phase 4 can do. -/
theorem txDrain_cases (s : State) :
    txDrain s = s ∨ ∃ e rest, s.link.state = .opened ∧ s.txq = e :: rest ∧ txDrain s = frameDrained e rest s := by
  by_cases h : drainReady s
  · cases hq : s.txq with
    | nil => exact .inl (txDrain_of_txq_nil hq)
    | cons e rest => exact .inr ⟨e, rest, h.1, rfl, txDrain_of_ready h hq⟩
  · exact .inl (txDrain_of_not_ready h)

end

theorem length_bytesOfSeq_rfFrame (f : RfFrame) : (bytesOfSeq f).length = 48 := by
  simp [bytesOfSeq]

/-- One unit of credit less, where there is one. -/
theorem sub_one_eq_ofNat {x : Byte} (h : 1 < x.toNat) : x - 1#8 = BitVec.ofNat 8 (x.toNat - 1) := by
  refine BitVec.eq_of_toNat_eq ?_
  have hlt := x.isLt
  rw [BitVec.toNat_sub, BitVec.toNat_ofNat, BitVec.toNat_ofNat]
  omega

/-- Settles O44: the writer's two forms, and a drain that is ready or not. -/
theorem creditPacedDrain : Obligations.CreditPacedDrain := by
  unfold Obligations.CreditPacedDrain
  refine ⟨fun t p s => ⟨fun h => ?short, fun h _ => ?long⟩,
    fun s => ⟨fun e rest hopen hspace hpace hq => ?drained, ?kept⟩, rfl, rfl, rfl⟩
  case short => rw [sendFrame, serFrame_of_le h]; rfl
  case long => rw [sendFrame, serFrame_of_lt h]; rfl
  case drained =>
    have hframe : serFrame (outboundType s.cfg e.tag) (bytesOfSeq e.frame) s.cfg.serial =
        s.cfg.serial.start :: 0x33#8 :: outboundType s.cfg e.tag :: bytesOfSeq e.frame := by
      rw [serFrame_of_le (by rw [length_bytesOfSeq_rfFrame]; decide), length_bytesOfSeq_rfFrame]
    rw [txDrain_of_ready ⟨hopen, hspace, hpace⟩ hq, frameDrained, hframe, sub_one_eq_ofNat hspace]
    rfl
  case kept =>
    rintro (hstate | hspace | ⟨hrun, hel⟩ | hq)
    · exact txDrain_of_not_ready fun ⟨hopen, _⟩ => hstate hopen
    · exact txDrain_of_not_ready fun ⟨_, hcredit, _⟩ => absurd hcredit (Nat.not_lt_of_le hspace)
    · exact txDrain_of_not_ready fun ⟨_, _, hpace⟩ => hpace.elim
        (fun hstopped => absurd (hrun.symm.trans hstopped) (by decide))
        (fun hexpired => absurd hexpired (Nat.not_le_of_lt hel))
    · exact txDrain_of_txq_nil hq

/-! #### The actions of phase 5 (R547) -/

/-- A timer that is stopped or has not reached its period. -/
theorem not_timerExpired {t : Timer} {period : Nat} (h : ¬(t.run = true ∧ period ≤ t.el.toNat)) :
    ¬timerExpired t period = true := fun hexpired => h ((timerExpired_iff t period).mp hexpired)

theorem not_timerExpired_of_stopped {t : Timer} (h : t.run = false) (period : Nat) : ¬timerExpired t period = true :=
  not_timerExpired fun hdue => by rw [h] at hdue; cases hdue.1

/-- R529: the port opened and GET_VERSION sent. -/
def portOpened (s : State) : State :=
  { s with
    serialOut := s.serialOut ++ [s.cfg.serial.start, 0x03#8, s.cfg.serial.getVersion]
    parser := { s.parser with pos := .start, off := 0#16 }
    link := { s.link with portOpen := true, pendValid := true, pendCmd := s.cfg.serial.getVersion, tries := 1#8 }
    timers := { s.timers with resp := timerStart } }

/-- R545: the wait of BACKOFF is over. -/
def backoffEnded (s : State) : State :=
  { s with
    timers := { s.timers with backoff := timerStop s.timers.backoff }
    link := { s.link with state := .version } }

/-- R543: a poll, its timer and, where it is stopped, the watchdog started. -/
def polled (s : State) : State :=
  { s with
    serialOut := s.serialOut ++ [s.cfg.serial.start, 0x03#8, s.cfg.serial.getStatus]
    timers := { s.timers with
      poll := timerStart, wd := if s.timers.wd.run = true then s.timers.wd else timerStart } }

section
variable {s : State}

theorem backoffAction_of_due (h : timerExpired s.timers.backoff s.cfg.tBackoff = true) :
    backoffAction s = backoffEnded s := if_pos h

theorem backoffAction_of_not_due (h : ¬timerExpired s.timers.backoff s.cfg.tBackoff = true) :
    backoffAction s = s := if_neg h

theorem portAction_true (hstate : s.link.state = .version) (hport : s.link.portOpen = false) :
    portAction true s = portOpened s := if_pos ⟨hstate, hport⟩

theorem portAction_false (hstate : s.link.state = .version) (hport : s.link.portOpen = false) :
    portAction false s = openFail .port s := if_pos ⟨hstate, hport⟩

theorem portAction_of_not_due (h : ¬(s.link.state = .version ∧ s.link.portOpen = false)) (ok : Bool) :
    portAction ok s = s := if_neg h

theorem respAction_of_due (h : timerExpired s.timers.resp s.cfg.tResp = true) : respAction s = respTimeout s :=
  if_pos h

theorem respAction_of_not_due (h : ¬timerExpired s.timers.resp s.cfg.tResp = true) : respAction s = s := if_neg h

theorem watchdogAction_of_due (h : timerExpired s.timers.wd s.cfg.tWd = true) :
    watchdogAction s = watchdogExpire s := if_pos h

theorem watchdogAction_of_not_due (h : ¬timerExpired s.timers.wd s.cfg.tWd = true) : watchdogAction s = s := if_neg h

theorem pollAction_of_due (h : timerExpired s.timers.poll s.cfg.tPoll = true) : pollAction s = polled s := if_pos h

theorem pollAction_of_not_due (h : ¬timerExpired s.timers.poll s.cfg.tPoll = true) : pollAction s = s := if_neg h

/-! #### The response timeout (R530) -/

theorem opening_iff (st : LinkState) : opening st = true ↔ st = .version ∨ st = .config ∨ st = .freq := by
  cases st <;> decide

/-- How often the outstanding command is sent (R530, R589). -/
def tryLimit (s : State) : Nat := if s.link.pendCmd = s.cfg.serial.getVersion then s.cfg.nVer else s.cfg.nAck

/-- One try more, its response timer started. -/
def retried (s : State) : State :=
  { s with
    link := { s.link with tries := s.link.tries + 1#8 }
    timers := { s.timers with resp := timerStart } }

theorem respTimeout_retry (hstate : opening s.link.state = true) (htries : s.link.tries.toNat < tryLimit s) :
    respTimeout s = retried (resend s) := (if_pos hstate).trans (if_pos htries)

theorem respTimeout_giveUp (hstate : opening s.link.state = true) (htries : tryLimit s ≤ s.link.tries.toNat) :
    respTimeout s = openFail .noResp s := (if_pos hstate).trans (if_neg (Nat.not_lt_of_le htries))

theorem respTimeout_otherwise (hstate : ¬opening s.link.state = true) :
    respTimeout s = endReply (emit (.ackNak 0x00#8 s.cfg.serial.setMode 0x00#8) (raise .noResp s)) := if_neg hstate

/-- The codes by which a resend tells the three commands apart (log 3). -/
theorem SerialCodes.distinct_of_wf {c : SerialCodes} (hc : c.wf = true) :
    c.setConfig ≠ c.getVersion ∧ c.setFreq ≠ c.getVersion ∧ c.setFreq ≠ c.setConfig := by
  have hnodup := ((SerialCodes.wf_iff c).mp hc).1
  simp only [SerialCodes.types, List.nodup_cons, List.mem_cons, not_or] at hnodup
  obtain ⟨⟨-, hconfig, -, hfreq, -⟩, -, ⟨-, hboth, -⟩, -⟩ := hnodup
  exact ⟨Ne.symm hconfig, Ne.symm hfreq, Ne.symm hboth⟩

theorem resend_getVersion (h : s.link.pendCmd = s.cfg.serial.getVersion) :
    resend s = sendFrame s.link.pendCmd [] s := by
  rw [resend, if_pos h, h]

theorem resend_setConfig (hc : s.cfg.serial.wf = true) (h : s.link.pendCmd = s.cfg.serial.setConfig) :
    resend s = sendFrame s.link.pendCmd (setConfigPayload s) s := by
  rw [resend, h, if_neg (SerialCodes.distinct_of_wf hc).1, if_pos rfl]

theorem resend_setFreq (hc : s.cfg.serial.wf = true) (h : s.link.pendCmd = s.cfg.serial.setFreq) :
    resend s = sendFrame s.link.pendCmd (setFreqPayload s) s := by
  obtain ⟨-, hversion, hconfig⟩ := SerialCodes.distinct_of_wf hc
  rw [resend, h, if_neg hversion, if_neg hconfig, if_pos rfl]

theorem add_one_eq_ofNat (x : Byte) : x + 1#8 = BitVec.ofNat 8 (x.toNat + 1) :=
  BitVec.eq_of_toNat_eq (BitVec.toNat_add x 1#8)

end

/-! #### The watchdog (R544) -/

theorem getLsbD_emit_err (ev : Event) {s : State} {k : Nat} (h : s.err.getLsbD k = true) :
    (emit ev s).err.getLsbD k = true := by
  obtain ⟨-, he⟩ | ⟨-, he⟩ := emit_cases ev s
  · rw [he]; exact h
  · rw [he, BitVec.getLsbD_or, h]; rfl

theorem getLsbD_raise_watchdog (s : State) : (raise .watchdog s).err.getLsbD 14 = true := by
  rw [raise, if_neg nofun]
  refine getLsbD_emit_err _ ?_
  rw [BitVec.getLsbD_or]
  exact Bool.or_true _

/-- The state in which an expired watchdog ends, before its event. -/
def watchdogClosed (s : State) : State :=
  enterBackoff (closeLink { s with link := { s.link with linkErr := true, autoReopen := true } })

theorem watchdogExpire_eq (s : State) :
    watchdogExpire s = emit (.link .backoff 0#8) (watchdogClosed (raise .watchdog s)) := rfl

theorem watchdogExpire_err (s : State) : (watchdogExpire s).err.getLsbD 14 = true :=
  getLsbD_emit_err _ (getLsbD_raise_watchdog s)

theorem watchdogExpire_evq {s : State} (h : s.evq.length + 2 ≤ s.cfg.evqCap) :
    (watchdogExpire s).evq = s.evq ++ [.error .watchdog, .link .backoff 0#8] := by
  have hraise : raise .watchdog s =
      { s with err := s.err ||| errBit .watchdog, evq := s.evq ++ [.error .watchdog] } :=
    emit_of_lt (s := { s with err := s.err ||| errBit .watchdog }) (by dsimp only; omega)
  have hroom : (s.evq ++ [Event.error .watchdog]).length < s.cfg.evqCap := by
    rw [List.length_append, List.length_singleton]
    omega
  rw [watchdogExpire_eq, hraise, emit_of_lt hroom]
  exact List.append_assoc _ _ _

theorem watchdogExpire_link (s : State) : (watchdogExpire s).link =
    { s.link with
      state := .backoff, portOpen := false, protoVersion := 0#8, space := 0#8, linkErr := true, autoReopen := true
      pendValid := false, pendCmd := 0#8, tries := 0#8 } := by
  rw [watchdogExpire_eq, emit_link, watchdogClosed, enterBackoff_link, closeLink_link, raise_link]

theorem watchdogExpire_timers (s : State) : (watchdogExpire s).timers =
    ⟨timerStop s.timers.poll, timerStop s.timers.wd, timerStop s.timers.pace, timerStart, timerStop s.timers.resp⟩ := by
  rw [watchdogExpire_eq, emit_timers, watchdogClosed, enterBackoff_timers, ← raise_timers .watchdog s]
  rfl

theorem watchdogExpire_txq (s : State) : (watchdogExpire s).txq = [] := by
  rw [watchdogExpire_eq, emit_txq]
  rfl

/-! #### A tick without bytes and without queued records -/

theorem parseBytes_nil (s : State) : parseBytes [] s = s := ite_self s

/-- Phase 1 alone comes before phase 4 (R500). -/
theorem step_of_quiet_tick {s : State} {dt : Nat} {ok : Bool} {rest : List EnvStep}
    (hin : s.inputs = .tick dt [] ok :: rest) (hq : s.rxq = []) :
    step s = .next (timerActions ok (txDrain (advanceTimers dt { s with inputs := rest, serialOut := [] }))) := by
  rw [step_of_tick hin, parseBytes_nil, rxDrain_of_rxq_nil]
  exact hq

/-- R66: a running timer that reaches its period in this tick. -/
theorem timerExpired_timerAdvance {t : Timer} {dt period : Nat} (hrun : t.run = true)
    (h : period ≤ min (t.el.toNat + dt) (2 ^ 32 - 1)) : timerExpired (timerAdvance dt t) period = true := by
  rw [timerExpired_iff, timerAdvance_run, timerAdvance_el, if_pos hrun]
  exact ⟨hrun, h⟩

section
variable {s : State}

/-- In OPEN with no wait running, only the watchdog and the poll timer act, and the watchdog stops the other. -/
theorem timerActions_of_watchdog (hstate : s.link.state = .opened) (hresp : s.timers.resp.run = false)
    (hbackoff : s.timers.backoff.run = false) (hwd : timerExpired s.timers.wd s.cfg.tWd = true) (ok : Bool) :
    timerActions ok s = watchdogExpire s := by
  rw [timerActions, backoffAction_of_not_due (not_timerExpired_of_stopped hbackoff _),
    portAction_of_not_due (fun h => by rw [hstate] at h; cases h.1),
    respAction_of_not_due (not_timerExpired_of_stopped hresp _), watchdogAction_of_due hwd,
    pollAction_of_not_due (not_timerExpired_of_stopped (by rw [watchdogExpire_timers]; rfl) _)]

/-- R545, R529: the wait over, the port opens in the same tick, and the timer of its GET_VERSION has just started. -/
theorem timerActions_of_backoff (hport : s.link.portOpen = false)
    (hbackoff : timerExpired s.timers.backoff s.cfg.tBackoff = true) (hresp : 0 < s.cfg.tResp)
    (hwd : s.timers.wd.run = false) (hpoll : s.timers.poll.run = false) :
    timerActions true s = portOpened (backoffEnded s) := by
  have hfresh : respAction (portOpened (backoffEnded s)) = portOpened (backoffEnded s) :=
    respAction_of_not_due (not_timerExpired fun h => absurd h.2 (Nat.not_le_of_lt hresp))
  have hunwatched : watchdogAction (portOpened (backoffEnded s)) = portOpened (backoffEnded s) :=
    watchdogAction_of_not_due (not_timerExpired_of_stopped hwd _)
  have hunpolled : pollAction (portOpened (backoffEnded s)) = portOpened (backoffEnded s) :=
    pollAction_of_not_due (not_timerExpired_of_stopped hpoll _)
  rw [timerActions, backoffAction_of_due hbackoff, portAction_true (s := backoffEnded s) rfl hport, hfresh,
    hunwatched, hunpolled]

/-- Phase 4 before an expired watchdog: it leaves alone what the watchdog's clause speaks of. -/
theorem timerActions_txDrain_of_watchdog (hstate : s.link.state = .opened) (hresp : s.timers.resp.run = false)
    (hbackoff : s.timers.backoff.run = false) (hwd : timerExpired s.timers.wd s.cfg.tWd = true) (ok : Bool) :
    ∃ u, timerActions ok (txDrain s) = watchdogExpire u ∧ u.evq = s.evq ∧ u.cfg = s.cfg := by
  obtain h | ⟨e, rest, -, -, h⟩ := txDrain_cases s
  · rw [h]
    exact ⟨s, timerActions_of_watchdog hstate hresp hbackoff hwd ok, rfl, rfl⟩
  · rw [h]
    exact ⟨frameDrained e rest s,
      timerActions_of_watchdog (s := frameDrained e rest s) hstate hresp hbackoff hwd ok, rfl, rfl⟩

end

/-- Settles O45: two ticks through their phases, and the equations of the actions. -/
theorem watchdogClosesAndReopens : Obligations.WatchdogClosesAndReopens := by
  unfold Obligations.WatchdogClosesAndReopens
  refine ⟨?watchdog, ?backoff, fun s ok => rfl, ?port, ?resp, ?poll⟩
  case watchdog =>
    intro s dt ok rest hin hq hstate hrun hel hresp hbackoff
    obtain ⟨u, hu, hevq, hcfg⟩ := timerActions_txDrain_of_watchdog
      (s := advanceTimers dt { s with inputs := rest, serialOut := [] }) hstate ((timerAdvance_run _ _).trans hresp)
      ((timerAdvance_run _ _).trans hbackoff) (timerExpired_timerAdvance hrun hel) ok
    rw [step_of_quiet_tick hin hq, hu]
    refine ⟨_, rfl, ?_⟩
    rw [watchdogExpire_link, watchdogExpire_timers]
    refine ⟨rfl, rfl, rfl, rfl, watchdogExpire_txq u, watchdogExpire_err u, rfl, rfl, fun hroom => ?_⟩
    rw [watchdogExpire_evq (by rw [hevq, hcfg]; exact hroom), hevq]
    rfl
  case backoff =>
    intro s dt rest hin hq hstate hport hrun hel hresp hwd hpoll
    have hclosed : ¬drainReady (advanceTimers dt { s with inputs := rest, serialOut := [] }) :=
      fun h => by cases hstate.symm.trans h.1
    rw [step_of_quiet_tick hin hq, txDrain_of_not_ready hclosed, timerActions_of_backoff
      (s := advanceTimers dt { s with inputs := rest, serialOut := [] }) hport (timerExpired_timerAdvance hrun hel)
      hresp ((timerAdvance_run _ _).trans hwd) ((timerAdvance_run _ _).trans hpoll)]
    exact ⟨_, rfl, rfl, rfl, rfl, rfl, rfl, rfl, rfl⟩
  case port =>
    refine fun s => ⟨fun hstate hport => ⟨portAction_false hstate hport, portAction_true hstate hport⟩,
      fun h ok => portAction_of_not_due ?_ ok⟩
    rintro ⟨hstate, hport⟩
    exact h.elim (fun hne => hne hstate) (fun hopen => absurd (hport.symm.trans hopen) (by decide))
  case resp =>
    intro s hc c due opening limit resent
    have hexpired : due → timerExpired s.timers.resp s.cfg.tResp = true := (timerExpired_iff _ _).mpr
    have hresent {p : List Byte} (h : resend s = sendFrame s.link.pendCmd p s) : retried (resend s) = resent p := by
      rw [h, retried, sendFrame_link, add_one_eq_ofNat]
      rfl
    refine ⟨fun h => respAction_of_not_due (not_timerExpired h), fun hdue hopen htries => ?retry,
      fun hdue hopen htries => ?giveUp, fun hdue hstate => ?unanswered⟩
    case retry =>
      rw [respAction_of_due (hexpired hdue), respTimeout_retry ((opening_iff _).mpr hopen) htries]
      exact ⟨fun h => hresent (resend_getVersion h), fun h => hresent (resend_setConfig hc h),
        fun h => hresent (resend_setFreq hc h)⟩
    case giveUp => rw [respAction_of_due (hexpired hdue), respTimeout_giveUp ((opening_iff _).mpr hopen) htries]
    case unanswered =>
      rw [respAction_of_due (hexpired hdue), respTimeout_otherwise (by rw [hstate]; decide)]
      exact endReply_eq ((emit_link _ _).trans (raise_link _ _)) ((emit_timers _ _).trans (raise_timers _ _))
  case poll =>
    refine fun s => ⟨fun hrun hel => pollAction_of_due ((timerExpired_iff _ _).mpr ⟨hrun, hel⟩),
      fun h => pollAction_of_not_due (not_timerExpired ?_)⟩
    rintro ⟨hrun, hel⟩
    exact h.elim (fun hstopped => absurd (hrun.symm.trans hstopped) (by decide))
      (fun hlt => absurd hel (Nat.not_le_of_lt hlt))

end Sys2Proof.Machine
end

section
/-! ### The serial parser (47_serial_engine.md R510 to R519)

A frame as the writer builds it is read byte by byte: `Reads` says what the parser holds after the first `k` bytes.
Every byte but the last changes the parser alone, and the last one completes the frame. -/

namespace Sys2Proof.Machine

/-! #### An update of the parser alone -/

/-- `s` with the parser `p`. -/
def withParser (p : Parser) (s : State) : State := { s with parser := p }

theorem emit_withParser (ev : Event) (p : Parser) (s : State) :
    emit ev (withParser p s) = withParser p (emit ev s) := by
  rw [emit, emit, apply_ite (withParser p)]
  rfl

theorem raise_withParser (k : ErrCode) (p : Parser) (s : State) :
    raise k (withParser p s) = withParser p (raise k s) := by
  rw [raise, raise, apply_ite (withParser p), ← emit_withParser]
  rfl

/-- The parser after a byte is stored (R515). -/
def Parser.stored (cap : Nat) (b : Byte) (p : Parser) : Parser :=
  { p with buf := if p.off.toNat < cap then p.buf.set p.off.toNat b else p.buf, off := p.off + 1#16 }

theorem Parser.stored_size (cap : Nat) (b : Byte) (p : Parser) : (p.stored cap b).buf.length = p.buf.length := by
  unfold Parser.stored
  dsimp only
  split
  · exact List.length_set
  · rfl

theorem Parser.stored_off {p : Parser} {k : Nat} (h : p.off.toNat = k) (hk : k < 65535) (cap : Nat) (b : Byte) :
    (p.stored cap b).off.toNat = k + 1 := by
  have hadd : (p.off + 1#16).toNat = (p.off.toNat + 1) % 2 ^ 16 := BitVec.toNat_add p.off 1#16
  have hstored : (p.stored cap b).off = p.off + 1#16 := rfl
  rw [hstored, hadd, h]
  omega

theorem Parser.stored_buf {p : Parser} {k cap : Nat} (hoff : p.off.toNat = k) (hk : k < cap) (b : Byte) :
    (p.stored cap b).buf = p.buf.set k b := by
  rw [Parser.stored, hoff, if_pos hk]

/-! #### One byte (R519) -/

section
variable {s : State} {b : Byte}

theorem parseByte_start (hpos : s.parser.pos = .start) (hb : b = s.cfg.serial.start) :
    parseByte b s =
      withParser { Parser.stored s.cfg.rxbufCap b { s.parser with off := 0#16 } with pos := .length1 } s := by
  rw [parseByte, hpos]
  exact if_pos hb

theorem parseByte_start_of_ne (hpos : s.parser.pos = .start) (hb : b ≠ s.cfg.serial.start) : parseByte b s = s := by
  rw [parseByte, hpos]
  exact if_neg hb

theorem parseByte_escape (hpos : s.parser.pos = .length1) (hb : b = s.cfg.serial.lenEscape) :
    parseByte b s = withParser { s.parser.stored s.cfg.rxbufCap b with pos := .length2 } s := by
  rw [parseByte, hpos]
  exact if_pos hb

theorem parseByte_badLength (hpos : s.parser.pos = .length1) (hb : b ≠ s.cfg.serial.lenEscape) (hlen : b.toNat < 3) :
    parseByte b s =
      withParser { s.parser.stored s.cfg.rxbufCap b with pos := .start } (raise .serFraming s) := by
  have hraise : raise .serFraming (storeByte b s) =
      withParser (s.parser.stored s.cfg.rxbufCap b) (raise .serFraming s) := raise_withParser _ _ s
  rw [parseByte, hpos]
  dsimp only
  rw [storeByte_cfg, if_neg hb, if_pos hlen, hraise]
  rfl

theorem parseByte_shortLength (hpos : s.parser.pos = .length1) (hb : b ≠ s.cfg.serial.lenEscape)
    (hlen : 3 ≤ b.toNat) :
    parseByte b s =
      withParser { s.parser.stored s.cfg.rxbufCap b with pos := .type, len := b.setWidth 16 } s := by
  rw [parseByte, hpos]
  exact (if_neg hb).trans (if_neg (Nat.not_lt_of_le hlen))

theorem parseByte_length2 (hpos : s.parser.pos = .length2) :
    parseByte b s = withParser { s.parser.stored s.cfg.rxbufCap b with
      pos := .type, len := BitVec.ofNat 16 (b.toNat + s.cfg.serial.len2Bias) } s := by
  rw [parseByte, hpos]
  rfl

theorem parseByte_type (hpos : s.parser.pos = .type) :
    parseByte b s = completeOr .data (withParser { s.parser.stored s.cfg.rxbufCap b with type := b } s) := by
  rw [parseByte, hpos]
  rfl

theorem parseByte_data (hpos : s.parser.pos = .data) :
    parseByte b s = completeOr .data (withParser (s.parser.stored s.cfg.rxbufCap b) s) := by
  rw [parseByte, hpos]
  rfl

theorem completeOr_of_complete {p : Parser} (h : p.off.toNat = p.len.toNat) (pos : ParserPos) :
    completeOr pos (withParser p s) = completeFrame (withParser p s) := if_pos (BitVec.eq_of_toNat_eq h)

theorem completeOr_of_incomplete {p : Parser} (h : p.off.toNat ≠ p.len.toNat) (pos : ParserPos) :
    completeOr pos (withParser p s) = withParser { p with pos := pos } s :=
  if_neg fun heq => h (congrArg BitVec.toNat heq)

theorem completeFrame_of_oversize {p : Parser} (h : s.cfg.rxbufCap < p.len.toNat) :
    completeFrame (withParser p s) = withParser { p with pos := .start } (raise .serLen s) :=
  (if_pos h).trans (raise_withParser _ _ s)

theorem completeFrame_of_fitting {p : Parser} (h : p.len.toNat ≤ s.cfg.rxbufCap) :
    completeFrame (withParser p s) =
      handleFrame p.type (framePayload s.cfg.serial p) (withParser { p with pos := .start } s) :=
  if_neg (Nat.not_lt_of_le h)

end

/-! #### Frames as the writer builds them -/

/-- The first bytes of `frame`, `hdr` of them before the type byte, declare its length in the short form or in the
long one (R210, R211). -/
structure Framed (c : SerialCodes) (hdr : Nat) (frame : List Byte) : Prop where
  first : frame[0]? = some c.start
  declares : (hdr = 2 ∧ ∃ n, frame[1]? = some n ∧ n ≠ c.lenEscape ∧ 3 ≤ n.toNat ∧ n.toNat = frame.length) ∨
    (hdr = 3 ∧ frame[1]? = some c.lenEscape ∧ ∃ n, frame[2]? = some n ∧ n.toNat + c.len2Bias = frame.length)
  hdr_lt : hdr < frame.length
  length_le : frame.length ≤ 512

/-- The writer's frames are such, with their type and payload behind the first bytes. -/
theorem serFrame_framed {c : SerialCodes} (hc : c.wf = true) (type : Byte) {payload : List Byte}
    (hp : payload.length ≤ 251 + c.len2Bias) :
    ∃ hdr, Framed c hdr (serFrame type payload c) ∧ (serFrame type payload c)[hdr]? = some type ∧
      (serFrame type payload c).drop (hdr + 1) = payload := by
  obtain ⟨-, hescape, hbias, hbias'⟩ := (SerialCodes.wf_iff c).mp hc
  obtain hshort | hlong := Nat.lt_or_ge 252 payload.length |>.symm
  · have hlen : (BitVec.ofNat 8 (payload.length + 3)).toNat = payload.length + 3 := Nat.mod_eq_of_lt (by omega)
    have hne : BitVec.ofNat 8 (payload.length + 3) ≠ c.lenEscape := fun h => by rw [← h, hlen] at hescape; omega
    rw [serFrame_of_le hshort]
    refine ⟨2, ⟨rfl, .inl ⟨rfl, _, rfl, hne, by omega, hlen⟩, ?_, ?_⟩, rfl, rfl⟩
    all_goals simp only [List.length_cons]; omega
  · have hlen : (BitVec.ofNat 8 (payload.length + 4 - c.len2Bias)).toNat = payload.length + 4 - c.len2Bias :=
      Nat.mod_eq_of_lt (by omega)
    rw [serFrame_of_lt hlong]
    refine ⟨3, ⟨rfl, .inr ⟨rfl, rfl, _, rfl, ?_⟩, ?_, ?_⟩, rfl, rfl⟩
    all_goals simp only [hlen, List.length_cons]; omega

/-- Where the parser stands after `k` bytes of a frame. -/
def framePos (hdr k : Nat) : ParserPos :=
  if k = 0 then .start else if k = 1 then .length1 else if k < hdr then .length2 else if k = hdr then .type else .data

/-- What the parser holds after `k` bytes of `frame`, begun in state `s`. -/
structure Reads (s : State) (hdr : Nat) (frame : List Byte) (k : Nat) (p : Parser) : Prop where
  off : p.off.toNat = k
  len : hdr ≤ k → p.len.toNat = frame.length
  type : hdr < k → frame[hdr]? = some p.type
  size : p.buf.length = s.parser.buf.length
  buf : s.parser.buf.length = s.cfg.rxbufCap → frame.length ≤ s.cfg.rxbufCap → p.buf.take k = frame.take k

section
variable {s : State} {hdr k : Nat} {frame : List Byte} {p : Parser} {b : Byte}

/-- The next byte goes behind those read so far. -/
theorem take_succ_stored (hoff : p.off.toNat = k) (hsize : p.buf.length = s.parser.buf.length)
    (hbuf : s.parser.buf.length = s.cfg.rxbufCap → frame.length ≤ s.cfg.rxbufCap → p.buf.take k = frame.take k)
    (hb : frame[k]? = some b) (hcap : s.parser.buf.length = s.cfg.rxbufCap) (hfits : frame.length ≤ s.cfg.rxbufCap) :
    (p.stored s.cfg.rxbufCap b).buf.take (k + 1) = frame.take (k + 1) := by
  obtain ⟨hk, -⟩ := List.getElem?_eq_some_iff.mp hb
  rw [Parser.stored_buf hoff (by omega), List.take_add_one, List.take_add_one, hb,
    List.take_set_of_le (Nat.le_refl k), hbuf hcap hfits, List.getElem?_set_self (by omega)]

theorem framed_lt (hf : Framed s.cfg.serial hdr frame) (hb : frame[k]? = some b) : k < 65535 := by
  obtain ⟨hk, -⟩ := List.getElem?_eq_some_iff.mp hb
  have hle := hf.length_le
  omega

/-- R511: the first byte. -/
theorem parseByte_first (hf : Framed s.cfg.serial hdr frame) (hpos : s.parser.pos = .start)
    (hb : frame[0]? = some b) :
    ∃ q, parseByte b s = withParser q s ∧ q.pos = .length1 ∧ Reads s hdr frame 1 q := by
  have hstart : b = s.cfg.serial.start := Option.some.inj (hb.symm.trans hf.first)
  have hhdr : 2 ≤ hdr := by obtain ⟨h, -⟩ | ⟨h, -⟩ := hf.declares <;> omega
  refine ⟨_, parseByte_start hpos hstart, rfl, ?_⟩
  exact {
    off := rfl
    len := fun h => by omega
    type := fun h => by omega
    size := Parser.stored_size _ _ _
    buf := take_succ_stored (p := { s.parser with off := 0#16 }) rfl rfl (fun _ _ => rfl) hb }

/-- R512, R513: the length bytes. -/
theorem parseByte_header (hf : Framed s.cfg.serial hdr frame) (hk : 0 < k) (hlt : k < hdr)
    (hpos : p.pos = framePos hdr k) (hr : Reads s hdr frame k p) (hb : frame[k]? = some b) :
    ∃ q, parseByte b (withParser p s) = withParser q s ∧ q.pos = framePos hdr (k + 1) ∧
      Reads s hdr frame (k + 1) q := by
  have hbound := framed_lt hf hb
  have hlength := hf.length_le
  have hread {q : Parser} (hoff : q.off = (p.stored s.cfg.rxbufCap b).off)
      (hbuf : q.buf = (p.stored s.cfg.rxbufCap b).buf) (hlen : hdr ≤ k + 1 → q.len.toNat = frame.length) :
      Reads s hdr frame (k + 1) q :=
    { off := by rw [hoff]; exact Parser.stored_off hr.off hbound _ _
      len := hlen
      type := fun h => by omega
      size := by rw [hbuf, Parser.stored_size]; exact hr.size
      buf := by rw [hbuf]; exact take_succ_stored hr.off hr.size hr.buf hb }
  obtain ⟨rfl, n, hn, hne, hmin, hdeclared⟩ | ⟨rfl, hescape, n, hn, hdeclared⟩ := hf.declares
  · obtain rfl : k = 1 := by omega
    obtain rfl : b = n := Option.some.inj (hb.symm.trans hn)
    refine ⟨_, parseByte_shortLength hpos hne hmin, rfl, hread rfl rfl fun _ => ?_⟩
    rw [← hdeclared]
    exact BitVec.toNat_setWidth_of_le (by decide)
  · obtain rfl | rfl : k = 1 ∨ k = 2 := by omega
    · have hbyte : b = s.cfg.serial.lenEscape := Option.some.inj (hb.symm.trans hescape)
      exact ⟨_, parseByte_escape hpos hbyte, rfl, hread rfl rfl fun h => by omega⟩
    · obtain rfl : b = n := Option.some.inj (hb.symm.trans hn)
      have hlen : (BitVec.ofNat 16 (b.toNat + s.cfg.serial.len2Bias)).toNat = frame.length := by
        rw [hdeclared]
        exact Nat.mod_eq_of_lt (by omega)
      exact ⟨_, parseByte_length2 hpos, rfl, hread rfl rfl fun _ => hlen⟩

/-- R514, R515: the type byte and those of the payload; the frame is complete or goes on. -/
theorem parseByte_body (hf : Framed s.cfg.serial hdr frame) (hk : 0 < k) (hle : hdr ≤ k)
    (hpos : p.pos = framePos hdr k) (hr : Reads s hdr frame k p) (hb : frame[k]? = some b) :
    ∃ q, parseByte b (withParser p s) = completeOr .data (withParser q s) ∧ Reads s hdr frame (k + 1) q := by
  have hhdr : 2 ≤ hdr := by obtain ⟨h, -⟩ | ⟨h, -⟩ := hf.declares <;> omega
  have hread {q : Parser} (hoff : q.off = (p.stored s.cfg.rxbufCap b).off)
      (hbuf : q.buf = (p.stored s.cfg.rxbufCap b).buf) (hlen : q.len = p.len) (htype : frame[hdr]? = some q.type) :
      Reads s hdr frame (k + 1) q :=
    { off := by rw [hoff]; exact Parser.stored_off hr.off (framed_lt hf hb) _ _
      len := fun _ => by rw [hlen]; exact hr.len hle
      type := fun _ => htype
      size := by rw [hbuf, Parser.stored_size]; exact hr.size
      buf := by rw [hbuf]; exact take_succ_stored hr.off hr.size hr.buf hb }
  rw [framePos, if_neg (by omega), if_neg (by omega), if_neg (by omega)] at hpos
  by_cases heq : k = hdr
  · rw [if_pos heq] at hpos
    exact ⟨_, parseByte_type hpos, hread rfl rfl rfl (heq ▸ hb)⟩
  · rw [if_neg heq] at hpos
    exact ⟨_, parseByte_data hpos, hread rfl rfl rfl (hr.type (by omega))⟩

/-- R518: bytes short of a whole frame change the parser alone. -/
theorem foldl_parseByte_take (hf : Framed s.cfg.serial hdr frame) (hpos : s.parser.pos = .start)
    (hk : k < frame.length) :
    ∃ p, (frame.take k).foldl (fun s b => parseByte b s) s = withParser p s ∧ p.pos = framePos hdr k ∧
      (0 < k → Reads s hdr frame k p) := by
  induction k with
  | zero => exact ⟨s.parser, rfl, hpos, fun h => absurd h (Nat.lt_irrefl 0)⟩
  | succ k ih =>
    obtain ⟨p, hp, hppos, hr⟩ := ih (Nat.lt_of_succ_lt hk)
    have hb : frame[k]? = some (frame[k]'(Nat.lt_of_succ_lt hk)) := List.getElem?_eq_getElem _
    rw [List.take_add_one, hb, List.foldl_append, hp]
    obtain rfl | hpositive := Nat.eq_zero_or_pos k
    · have hs : withParser p s = s := hp.symm
      rw [hs]
      obtain ⟨q, hq, hqpos, hread⟩ := parseByte_first hf hpos hb
      exact ⟨q, hq, hqpos, fun _ => hread⟩
    · obtain hlt | hle := Nat.lt_or_ge k hdr
      · obtain ⟨q, hq, hqpos, hread⟩ := parseByte_header hf hpositive hlt hppos (hr hpositive) hb
        exact ⟨q, hq, hqpos, fun _ => hread⟩
      · obtain ⟨q, hq, hread⟩ := parseByte_body hf hpositive hle hppos (hr hpositive) hb
        have hmore : q.off.toNat ≠ q.len.toNat := by
          rw [hread.off, hread.len (by omega)]
          omega
        refine ⟨_, hq.trans (completeOr_of_incomplete hmore .data), ?_,
          fun _ => ⟨hread.off, hread.len, hread.type, hread.size, hread.buf⟩⟩
        rw [framePos, if_neg (by omega), if_neg (by omega), if_neg (by omega), if_neg (by omega)]

/-- R515: the last byte completes the frame. -/
theorem foldl_parseByte_frame (hf : Framed s.cfg.serial hdr frame) (hpos : s.parser.pos = .start) :
    ∃ p, frame.foldl (fun s b => parseByte b s) s = completeFrame (withParser p s) ∧
      Reads s hdr frame frame.length p := by
  obtain ⟨k, hk⟩ : ∃ k, frame.length = k + 1 := Nat.exists_eq_add_one.mpr (Nat.zero_lt_of_lt hf.hdr_lt)
  have hhdr := hf.hdr_lt
  have hmin : 2 ≤ hdr := by obtain ⟨h, -⟩ | ⟨h, -⟩ := hf.declares <;> omega
  obtain ⟨p, hp, hppos, hr⟩ := foldl_parseByte_take hf hpos (k := k) (by omega)
  have hb : frame[k]? = some (frame[k]'(by omega)) := List.getElem?_eq_getElem _
  obtain ⟨q, hq, hread⟩ := parseByte_body hf (by omega) (by omega) hppos (hr (by omega)) hb
  have hwhole : frame.take k ++ [frame[k]'(by omega)] = frame := by
    have htake := List.take_add_one (l := frame) (i := k)
    rw [hb, ← hk, List.take_length] at htake
    exact htake.symm
  have hdone : q.off.toNat = q.len.toNat := by rw [hread.off, hread.len (by omega), hk]
  refine ⟨q, ?_, hk ▸ hread⟩
  rw [← completeOr_of_complete hdone .data, ← hq, ← hp]
  conv_lhs => rw [← hwhole, List.foldl_append]
  rfl

/-- R515: the payload of a frame that fits the buffer. -/
theorem framePayload_of_reads (hf : Framed s.cfg.serial hdr frame) (hr : Reads s hdr frame frame.length p)
    (hcap : s.parser.buf.length = s.cfg.rxbufCap) (hfits : frame.length ≤ s.cfg.rxbufCap) :
    framePayload s.cfg.serial p = frame.drop (hdr + 1) := by
  have hbuf : p.buf.take frame.length = frame := by rw [hr.buf hcap hfits, List.take_length]
  have hhdr := hf.hdr_lt
  have hsecond : p.buf[1]? = frame[1]? := by
    conv_rhs => rw [← hbuf]
    rw [List.getElem?_take_of_lt]
    obtain ⟨h, -⟩ | ⟨h, -⟩ := hf.declares <;> omega
  rw [framePayload, hr.len hhdr.le, hbuf, List.getD_eq_getElem?_getD, hsecond]
  obtain ⟨rfl, n, hn, hne, -⟩ | ⟨rfl, hescape, -⟩ := hf.declares
  · rw [hn, Option.getD_some, if_neg hne]
  · rw [hescape, Option.getD_some, if_pos rfl]

end

/-! #### The obligations -/

/-- Settles O9: bytes short of a frame, one equation for each rejected byte, and a complete frame that is too long. -/
theorem partialFrameDispatchesNothing : Obligations.PartialFrameDispatchesNothing := by
  unfold Obligations.PartialFrameDispatchesNothing
  refine ⟨fun s type payload k hc hp hpos hk => ?short, fun s b => parseByte_start_of_ne,
    fun s b hpos hne hb => ⟨_, rfl, parseByte_badLength hpos hne ?small⟩,
    fun s type payload hc hp hpos hlong => ?oversize⟩
  case short =>
    obtain ⟨hdr, hf, -⟩ := serFrame_framed hc type hp
    obtain ⟨p, hread, -⟩ := foldl_parseByte_take hf hpos hk
    exact ⟨p, hread⟩
  case small => obtain rfl | rfl := hb <;> decide
  case oversize =>
    obtain ⟨hdr, hf, -⟩ := serFrame_framed hc type hp
    obtain ⟨p, hread, hr⟩ := foldl_parseByte_frame hf hpos
    refine ⟨{ p with pos := .start }, rfl, hread.trans (completeFrame_of_oversize ?_)⟩
    rw [hr.len hf.hdr_lt.le]
    exact hlong

theorem isSerial_of_mem_serTable (c : SerialCodes) (p : List Byte) : ∀ e ∈ serTable c, isSerial (e.2 p) = true :=
  List.all_eq_true.mp (rfl : (serTable c).all (fun e => isSerial (e.2 p)) = true)

/-- The serial table yields no instruction of another format. -/
theorem isSerial_of_decodeSerBody {c : SerialCodes} {type : Byte} {p : List Byte} {i : Instr}
    (h : decodeSerBody c type p = .ok i) : isSerial i = true := by
  unfold decodeSerBody at h
  split at h
  next row hrow =>
    cases h
    obtain ⟨_, _, htable, -⟩ := List.lookup_eq_some_iff.mp hrow
    have hmem : (type, row) ∈ serTable c := by rw [htable]; exact List.mem_append_cons_self
    exact isSerial_of_mem_serTable c p _ hmem
  next => cases h

/-- R521: a frame whose type and payload decode runs the instruction. -/
theorem exec_of_decodeSerBody {type : Byte} {p : List Byte} {s : State} {i : Instr}
    (h : decodeSerBody s.cfg.serial type p = .ok i) : exec i s = .next (handleFrame type p s) := by
  have hi := isSerial_of_decodeSerBody h
  rw [handleFrame, h]
  cases i <;> cases hi <;> rfl

/-- A tick's bytes that are one frame are handled as that frame, with the parser back at START. -/
theorem parseBytes_serFrame {s : State} {type : Byte} {payload : List Byte} (hc : s.cfg.serial.wf = true)
    (hport : s.link.portOpen = true) (hpos : s.parser.pos = .start) (hcap : s.parser.buf.length = s.cfg.rxbufCap)
    (hfits : (serFrame type payload s.cfg.serial).length ≤ s.cfg.rxbufCap)
    (hp : payload.length ≤ 251 + s.cfg.serial.len2Bias) :
    ∃ p, p.pos = .start ∧
      parseBytes (serFrame type payload s.cfg.serial) s = handleFrame type payload (withParser p s) := by
  obtain ⟨hdr, hf, htype, hpayload⟩ := serFrame_framed hc type hp
  obtain ⟨p, hread, hr⟩ := foldl_parseByte_frame hf hpos
  have hlen : p.len.toNat ≤ s.cfg.rxbufCap := by rw [hr.len hf.hdr_lt.le]; exact hfits
  have hptype : p.type = type := Option.some.inj ((hr.type hf.hdr_lt).symm.trans htype)
  refine ⟨{ p with pos := .start }, rfl, ?_⟩
  rw [parseBytes, if_pos hport, hread, completeFrame_of_fitting hlen, hptype,
    framePayload_of_reads hf hr hcap hfits, hpayload]

/-- Settles O7: phase 2 handles the frame, and its handling is its instruction. -/
theorem stepRunsSerialFrame : Obligations.StepRunsSerialFrame := by
  unfold Obligations.StepRunsSerialFrame
  intro s dt type payload ok rest i frame hin hc hport hpos hcap hfits hp hdecode
  have hbody : decodeSerBody s.cfg.serial type payload = .ok i := by
    rw [← decodeSer_serFrame hc type hp]
    exact hdecode
  obtain ⟨p, hpstart, hframe⟩ := parseBytes_serFrame
    (s := advanceTimers dt { s with inputs := rest, serialOut := [] }) (type := type) hc hport hpos hcap hfits hp
  refine ⟨p, _, hpstart, exec_of_decodeSerBody hbody, ?_⟩
  rw [step_of_tick hin]
  exact congrArg (fun u => Host.Outcome.next (timerActions ok (txDrain (rxDrain u)))) hframe

end Sys2Proof.Machine
end

section
/-! ### What every step keeps of the parser (47_serial_engine.md R511 to R515, 60_exceptions.md R630)

A byte moves the parser along a frame; every other operation leaves the parser alone or puts it back to START with
the buffer it has. -/

namespace Sys2Proof.Machine

/-! #### Operations that do not parse -/

/-- From `s` to `t` the parser stays as it is, or goes back to START with its buffer. -/
def parserKept (s t : State) : Prop :=
  t.cfg = s.cfg ∧ (t.parser = s.parser ∨ (t.parser.pos = .start ∧ t.parser.buf = s.parser.buf))

theorem parserOk_of_start {s : State} (hbias : 5 ≤ s.cfg.serial.len2Bias ∧ s.cfg.serial.len2Bias ≤ 257)
    (hsize : s.parser.buf.length = s.cfg.rxbufCap) (hpos : s.parser.pos = .start) : parserOk s := by
  refine ⟨hbias, hsize, ?_⟩
  rw [hpos]
  trivial

theorem parserOk_of_parserKept {s t : State} (h : parserKept s t) (hs : parserOk s) : parserOk t := by
  obtain ⟨hcfg, hparser | ⟨hpos, hbuf⟩⟩ := h
  · simpa only [parserOk, hcfg, hparser] using hs
  · obtain ⟨hbias, hsize, -⟩ := hs
    exact parserOk_of_start (by rwa [hcfg]) (by rwa [hbuf, hcfg]) hpos

theorem parserKept_of_engineFields {s t u : State} (hst : parserKept s t) (h : engineFields u = engineFields t) :
    parserKept s u := by
  obtain ⟨hcfg, hparser, -⟩ := engineFields_eq_iff.mp h
  rw [parserKept, hcfg, hparser]
  exact hst

theorem parserKept_refl (s : State) : parserKept s s := ⟨rfl, .inl rfl⟩

theorem EngineMove.parserKept {s u : State} {i : Instr} (h : EngineMove s i u) : parserKept s u := by
  cases h with
  | closed | openFailed => exact ⟨rfl, .inr ⟨rfl, rfl⟩⟩
  | same | openRequested | modeSent | configSent | freqSent | opened | nakRecorded | replyEnded | statusRead =>
    exact ⟨rfl, .inl rfl⟩

theorem engineMoves.parserOk {s t : State} {i : Instr} (h : engineMoves s i t) (hs : parserOk s) : parserOk t := by
  obtain ⟨u, hmove, hfields⟩ := h
  exact parserOk_of_parserKept (parserKept_of_engineFields hmove.parserKept hfields) hs

/-- An inbound frame makes a move of its instruction. -/
theorem handleFrame_engineMoves (type : Byte) (p : List Byte) (s : State) :
    ∃ i, engineMoves s i (handleFrame type p s) := by
  obtain h | ⟨i, -, h⟩ := handleFrame_cases type p s
  · exact ⟨.nop, by rw [h]; exact engineMoves_of_same (raise_engineFields _ _)⟩
  · exact ⟨i, exec_engineMoves h⟩

/-! #### One byte -/

section
variable {s : State} {p : Parser} (hbias : 5 ≤ s.cfg.serial.len2Bias ∧ s.cfg.serial.len2Bias ≤ 257)
  (hsize : p.buf.length = s.cfg.rxbufCap)
include hbias hsize

theorem completeFrame_parserOk : parserOk (completeFrame (withParser p s)) := by
  obtain hlong | hfits := Nat.lt_or_ge s.cfg.rxbufCap p.len.toNat
  · have hcfg : (withParser { p with pos := .start } (raise .serLen s)).cfg = s.cfg := raise_cfg _ _
    rw [completeFrame_of_oversize hlong]
    exact parserOk_of_start (by rwa [hcfg]) (by rw [hcfg]; exact hsize) rfl
  · rw [completeFrame_of_fitting hfits]
    obtain ⟨i, hmoves⟩ := handleFrame_engineMoves p.type (framePayload s.cfg.serial p)
      (withParser { p with pos := .start } s)
    exact hmoves.parserOk (parserOk_of_start hbias hsize rfl)

theorem completeOr_parserOk (hmin : 3 ≤ p.off.toNat) (hle : p.off.toNat ≤ p.len.toNat)
    (hmax : p.len.toNat ≤ 255 + s.cfg.serial.len2Bias) : parserOk (completeOr .data (withParser p s)) := by
  by_cases h : p.off.toNat = p.len.toNat
  · rw [completeOr_of_complete h]
    exact completeFrame_parserOk hbias hsize
  · rw [completeOr_of_incomplete h]
    exact ⟨hbias, hsize, hmin, Nat.lt_of_le_of_ne hle h, hmax⟩

end

theorem parseByte_parserOk (b : Byte) {s : State} (hs : parserOk s) : parserOk (parseByte b s) := by
  obtain ⟨hbias, hsize, hread⟩ := hs
  have hstored (p : Parser) (hp : p.buf.length = s.cfg.rxbufCap) :
      (p.stored s.cfg.rxbufCap b).buf.length = s.cfg.rxbufCap := (Parser.stored_size _ _ _).trans hp
  have hbyte := b.isLt
  cases hpos : s.parser.pos <;> rw [hpos] at hread
  case start =>
    by_cases hb : b = s.cfg.serial.start
    · rw [parseByte_start hpos hb]
      exact ⟨hbias, hstored { s.parser with off := 0#16 } hsize, rfl⟩
    · rw [parseByte_start_of_ne hpos hb]
      exact parserOk_of_start hbias hsize hpos
  case length1 =>
    have hoff := Parser.stored_off hread (by decide) s.cfg.rxbufCap b
    by_cases hescape : b = s.cfg.serial.lenEscape
    · rw [parseByte_escape hpos hescape]
      exact ⟨hbias, hstored _ hsize, hoff⟩
    · obtain hbad | hlen := Nat.lt_or_ge b.toNat 3
      · have hcfg : (withParser { s.parser.stored s.cfg.rxbufCap b with pos := .start } (raise .serFraming s)).cfg =
            s.cfg := raise_cfg _ _
        rw [parseByte_badLength hpos hescape hbad]
        exact parserOk_of_start (by rwa [hcfg]) (by rw [hcfg]; exact hstored _ hsize) rfl
      · have hwide : (b.setWidth 16).toNat = b.toNat := BitVec.toNat_setWidth_of_le (by decide)
        rw [parseByte_shortLength hpos hescape hlen]
        refine ⟨hbias, hstored _ hsize, .inl ⟨hoff, ?_⟩⟩
        show 3 ≤ (b.setWidth 16).toNat ∧ (b.setWidth 16).toNat ≤ 255
        omega
  case length2 =>
    have hlen : (BitVec.ofNat 16 (b.toNat + s.cfg.serial.len2Bias)).toNat = b.toNat + s.cfg.serial.len2Bias :=
      Nat.mod_eq_of_lt (by omega)
    rw [parseByte_length2 hpos]
    refine ⟨hbias, hstored _ hsize, .inr ⟨Parser.stored_off hread (by decide) s.cfg.rxbufCap b, ?_⟩⟩
    show s.cfg.serial.len2Bias ≤ (BitVec.ofNat 16 (b.toNat + s.cfg.serial.len2Bias)).toNat ∧
      (BitVec.ofNat 16 (b.toNat + s.cfg.serial.len2Bias)).toNat ≤ 255 + s.cfg.serial.len2Bias
    omega
  case type =>
    have hbounds : 3 ≤ (s.parser.stored s.cfg.rxbufCap b).off.toNat ∧
        (s.parser.stored s.cfg.rxbufCap b).off.toNat ≤ s.parser.len.toNat ∧
        s.parser.len.toNat ≤ 255 + s.cfg.serial.len2Bias := by
      obtain ⟨htwo, hmin, hmax⟩ | ⟨hthree, hmin, hmax⟩ := hread
      · rw [Parser.stored_off htwo (by decide)]; omega
      · rw [Parser.stored_off hthree (by decide)]; omega
    obtain ⟨hmin, hle, hmax⟩ := hbounds
    rw [parseByte_type hpos]
    exact completeOr_parserOk hbias (hstored _ hsize) hmin hle hmax
  case data =>
    obtain ⟨hmin, hlt, hmax⟩ := hread
    have hoff := Parser.stored_off (p := s.parser) rfl (by omega) s.cfg.rxbufCap b
    have hle : (s.parser.stored s.cfg.rxbufCap b).off.toNat ≤ s.parser.len.toNat := by omega
    rw [parseByte_data hpos]
    exact completeOr_parserOk hbias (hstored _ hsize) (by omega) hle hmax

theorem foldl_parseByte_parserOk (bytes : List Byte) {s : State} (hs : parserOk s) :
    parserOk (bytes.foldl (fun s b => parseByte b s) s) := by
  induction bytes generalizing s with
  | nil => exact hs
  | cons b rest ih => exact ih (parseByte_parserOk b hs)

theorem parseBytes_parserOk (bytes : List Byte) {s : State} (hs : parserOk s) : parserOk (parseBytes bytes s) := by
  unfold parseBytes
  split
  · exact foldl_parseByte_parserOk bytes hs
  · exact hs

/-! #### The other phases of a tick -/

theorem rxLoop_engineFields (q : List TaggedFrame) (s : State) : engineFields (rxLoop q s) = engineFields s := by
  induction q generalizing s with
  | nil => rfl
  | cons e rest ih => exact (ih _).trans (rxProcess_engineFields e { s with rxq := rest })

theorem failedOpen_parserKept (s : State) : parserKept s (failedOpen s) := ⟨rfl, .inr ⟨rfl, rfl⟩⟩

theorem openFail_parserKept (k : ErrCode) (s : State) : parserKept s (openFail k s) :=
  parserKept_of_engineFields (failedOpen_parserKept s) (openFail_engineFields k s)

theorem txDrain_parserKept (s : State) : parserKept s (txDrain s) := by
  obtain h | ⟨e, rest, -, -, h⟩ := txDrain_cases s
  · rw [h]; exact parserKept_refl s
  · rw [h]; exact ⟨rfl, .inl rfl⟩

/-- Both branches of a choice keep the parser. -/
theorem parserKept_ite {p : Prop} [Decidable p] {s a b : State} (ha : parserKept s a) (hb : parserKept s b) :
    parserKept s (if p then a else b) := by
  split
  · exact ha
  · exact hb

theorem backoffAction_parserKept (s : State) : parserKept s (backoffAction s) :=
  parserKept_ite ⟨rfl, .inl rfl⟩ (parserKept_refl s)

theorem portAction_parserKept (ok : Bool) (s : State) : parserKept s (portAction ok s) :=
  parserKept_ite (parserKept_ite ⟨rfl, .inr ⟨rfl, rfl⟩⟩ (openFail_parserKept .port s)) (parserKept_refl s)

/-- R530: a resend writes to the line alone. -/
theorem resend_eq (s : State) : ∃ out, resend s = { s with serialOut := out } := by
  unfold resend
  split
  · exact ⟨_, rfl⟩
  · split
    · exact ⟨_, rfl⟩
    · split
      · exact ⟨_, rfl⟩
      · exact ⟨s.serialOut, rfl⟩

theorem respTimeout_parserKept (s : State) : parserKept s (respTimeout s) := by
  obtain ⟨out, hresend⟩ := resend_eq s
  unfold respTimeout
  dsimp only
  refine parserKept_ite (parserKept_ite ?_ (openFail_parserKept _ s)) ⟨?_, .inl ?_⟩
  · rw [hresend]; exact ⟨rfl, .inl rfl⟩
  · exact (emit_cfg _ _).trans (raise_cfg _ _)
  · exact (emit_parser _ _).trans (raise_parser _ _)

theorem respAction_parserKept (s : State) : parserKept s (respAction s) :=
  parserKept_ite (respTimeout_parserKept s) (parserKept_refl s)

theorem watchdogExpire_parserKept (s : State) : parserKept s (watchdogExpire s) := by
  have hcfg : (watchdogExpire s).cfg = s.cfg := (emit_cfg _ _).trans (raise_cfg _ _)
  have hparser : (watchdogExpire s).parser =
      { s.parser with pos := .start, off := 0#16, len := 0#16, type := 0#8 } := by
    rw [watchdogExpire_eq, emit_parser, ← raise_parser .watchdog s]
    rfl
  exact ⟨hcfg, .inr (by rw [hparser]; exact ⟨rfl, rfl⟩)⟩

theorem watchdogAction_parserKept (s : State) : parserKept s (watchdogAction s) :=
  parserKept_ite (watchdogExpire_parserKept s) (parserKept_refl s)

theorem pollAction_parserKept (s : State) : parserKept s (pollAction s) :=
  parserKept_ite ⟨rfl, .inl rfl⟩ (parserKept_refl s)

theorem timerActions_parserOk (ok : Bool) {s : State} (hs : parserOk s) : parserOk (timerActions ok s) :=
  parserOk_of_parserKept (pollAction_parserKept _) <|
  parserOk_of_parserKept (watchdogAction_parserKept _) <|
  parserOk_of_parserKept (respAction_parserKept _) <|
  parserOk_of_parserKept (portAction_parserKept ok _) <|
  parserOk_of_parserKept (backoffAction_parserKept s) hs

theorem tick_parserOk (dt : Nat) (bytes : List Byte) (ok : Bool) {s : State} (hs : parserOk s) :
    parserOk (tick dt bytes ok s) := by
  have hparsed : parserOk (parseBytes bytes (advanceTimers dt s)) :=
    parseBytes_parserOk bytes (parserOk_of_parserKept ⟨rfl, .inl rfl⟩ hs)
  have hdrained : parserOk (rxDrain (parseBytes bytes (advanceTimers dt s))) :=
    parserOk_of_parserKept (parserKept_of_engineFields (parserKept_refl _) (rxLoop_engineFields _ _)) hparsed
  exact timerActions_parserOk ok (parserOk_of_parserKept (txDrain_parserKept _) hdrained)

/-- Settles O57: a host transaction makes a move of the engine, a tick parses its bytes, and a reset starts with an
empty buffer of its size. -/
theorem stepKeepsParserBounded : Obligations.StepKeepsParserBounded := by
  unfold Obligations.StepKeepsParserBounded
  intro s t hs h
  obtain ⟨-, rfl⟩ | ⟨e, rest, -, hstep⟩ := step_cases s t h
  · exact hs
  · have hfetched : parserOk { s with inputs := rest, serialOut := [] } := hs
    obtain ⟨w, -, hexec⟩ | ⟨dt, bytes, ok, -, rfl⟩ | ⟨-, rfl⟩ := hstep
    · exact (exec_engineMoves hexec).parserOk hfetched
    · exact tick_parserOk dt bytes ok hfetched
    · obtain ⟨hbias, -, -⟩ := hs
      exact parserOk_of_start hbias List.length_replicate rfl

end Sys2Proof.Machine
end

section
/-! ### What every step keeps of the link (10_state.md R63 to R65, 47_serial_engine.md R528 to R533, R543 to R547)

`linkOk` reads the configuration, the link and which timers run: `linkFields`. Each move of the engine and each timer
action that is due starts from one link state, and the facts of that state give those of the next one. -/

namespace Sys2Proof.Machine

/-! #### The fields the invariant speaks of -/

/-- What `linkOk` reads: of the timers only whether they run. -/
def linkFields (s : State) : Params × LinkUnit × Bool × Bool × Bool × Bool × Bool :=
  (s.cfg, s.link, s.timers.poll.run, s.timers.wd.run, s.timers.pace.run, s.timers.backoff.run, s.timers.resp.run)

theorem linkOk_of_linkFields {s t : State} (h : linkFields t = linkFields s) (hs : linkOk s) : linkOk t := by
  simp only [linkFields, Prod.mk.injEq] at h
  obtain ⟨hcfg, hlink, hpoll, hwd, hpace, hbackoff, hresp⟩ := h
  simpa only [linkOk, linkIdle, linkAwaits, hcfg, hlink, hpoll, hwd, hpace, hbackoff, hresp] using hs

theorem linkFields_of_engineFields {s t : State} (h : engineFields t = engineFields s) :
    linkFields t = linkFields s := by
  obtain ⟨hcfg, -, hlink, htimers, -⟩ := engineFields_eq_iff.mp h
  simp only [linkFields, hcfg, hlink, htimers]

theorem linkOk_of_engineFields {s t : State} (h : engineFields t = engineFields s) (hs : linkOk s) : linkOk t :=
  linkOk_of_linkFields (linkFields_of_engineFields h) hs

/-- A first try is within the limits. -/
theorem one_le_max_of_retryLimits {s : State} (h : retryLimits s) : (1#8).toNat ≤ max s.cfg.nVer s.cfg.nAck :=
  le_max_of_le_left h.1

/-! #### What a running timer says -/

section
variable {s : State} (hs : linkOk s)
include hs

/-- R545: only BACKOFF runs the backoff timer. -/
theorem linkOk.state_of_backoff_run (h : s.timers.backoff.run = true) : s.link.state = .backoff := by
  have hnot (hrun : s.timers.backoff.run = false) : s.link.state = .backoff := by rw [h] at hrun; cases hrun
  cases hstate : s.link.state with
  | backoff => rfl
  | closed =>
    obtain ⟨-, hrun, -⟩ := hs.in_closed hstate
    exact hstate ▸ hnot hrun
  | version =>
    obtain ⟨-, hrun⟩ | ⟨⟨-, -, -, -, -, -, -, hrun⟩, -⟩ := hs.in_version hstate
    · exact hstate ▸ hnot hrun
    · exact hstate ▸ hnot hrun
  | config =>
    obtain ⟨⟨-, -, -, -, -, -, -, hrun⟩, -⟩ := hs.in_config hstate
    exact hstate ▸ hnot hrun
  | freq =>
    obtain ⟨⟨-, -, -, -, -, -, -, hrun⟩, -⟩ := hs.in_freq hstate
    exact hstate ▸ hnot hrun
  | opened =>
    obtain ⟨-, -, -, -, -, hrun, -⟩ := hs.in_opened hstate
    exact hstate ▸ hnot hrun

/-- R543: only OPEN polls. -/
theorem linkOk.state_of_poll_run (h : s.timers.poll.run = true) : s.link.state = .opened := by
  have hidle (hidle : linkIdle s) : s.link.state = .opened := by
    obtain ⟨-, -, -, hrun, -⟩ := hidle
    rw [h] at hrun
    cases hrun
  have hawaits {cmd : Byte} (hawaits : linkAwaits cmd s) : s.link.state = .opened := by
    obtain ⟨-, -, -, -, hrun, -⟩ := hawaits
    rw [h] at hrun
    cases hrun
  cases hstate : s.link.state with
  | opened => rfl
  | closed => exact hstate ▸ hidle (hs.in_closed hstate).1
  | backoff => exact hstate ▸ hidle (hs.in_backoff hstate).1
  | version => exact hstate ▸ (hs.in_version hstate).elim (hidle ·.1) (hawaits ·.1)
  | config => exact hstate ▸ hawaits (hs.in_config hstate).1
  | freq => exact hstate ▸ hawaits (hs.in_freq hstate).1

/-- R529: where the response timer runs, a command is outstanding and the link is opening or open. -/
theorem linkOk.of_resp_run (h : s.timers.resp.run = true) :
    s.link.pendValid = true ∧ (opening s.link.state = true ∨ s.link.state = .opened) := by
  have hnotIdle : ¬linkIdle s := by
    rintro ⟨-, -, -, -, -, -, hrun⟩
    rw [h] at hrun
    cases hrun
  cases hstate : s.link.state with
  | closed => exact absurd (hs.in_closed hstate).1 hnotIdle
  | backoff => exact absurd (hs.in_backoff hstate).1 hnotIdle
  | version =>
    obtain ⟨hidle, -⟩ | ⟨⟨-, hpend, -⟩, -⟩ := hs.in_version hstate
    · exact absurd hidle hnotIdle
    · exact ⟨hpend, .inl rfl⟩
  | config =>
    obtain ⟨⟨-, hpend, -⟩, -⟩ := hs.in_config hstate
    exact ⟨hpend, .inl rfl⟩
  | freq =>
    obtain ⟨⟨-, hpend, -⟩, -⟩ := hs.in_freq hstate
    exact ⟨hpend, .inl rfl⟩
  | opened =>
    obtain ⟨-, -, -, hresp, -⟩ := hs.in_opened hstate
    exact ⟨hresp.symm.trans h, .inr rfl⟩

end

/-! #### The moves of the engine -/

/-- R532: a failed open leaves BACKOFF or CLOSED, by `auto_reopen`. -/
theorem failedOpen_linkOk {s : State} (h : retryLimits s) : linkOk (failedOpen s) := by
  refine ⟨h, Nat.zero_le _, fun _ => rfl, ?_⟩
  have hidle : linkIdle (failedOpen s) := ⟨rfl, rfl, rfl, rfl, rfl, rfl, rfl⟩
  cases hreopen : s.link.autoReopen with
  | true =>
    have hstate : (failedOpen s).link.state = .backoff := if_pos hreopen
    rw [hstate]
    exact ⟨hidle, congrArg Timer.run (if_pos hreopen)⟩
  | false =>
    have hnot : ¬s.link.autoReopen = true := by rw [hreopen]; decide
    have hstate : (failedOpen s).link.state = .closed := if_neg hnot
    rw [hstate]
    exact ⟨hidle, congrArg Timer.run (if_neg hnot), hreopen⟩

theorem openFail_linkOk (k : ErrCode) {s : State} (h : retryLimits s) : linkOk (openFail k s) :=
  linkOk_of_engineFields (openFail_engineFields k s) (failedOpen_linkOk h)

/-- In OPEN the outstanding SET_MODE is over. -/
theorem endReply_linkOk {s : State} (hs : linkOk s) (hstate : s.link.state = .opened) : linkOk (endReply s) := by
  obtain ⟨hport, hproto, -, -, hpoll, hbackoff, herr, hreopen⟩ := hs.in_opened hstate
  exact linkOk_of_opened (s := endReply s) hs.limits (Nat.zero_le _) (fun _ => rfl) hstate
    ⟨hport, hproto, nofun, rfl, hpoll, hbackoff, herr, hreopen⟩

theorem requestOpen_linkOk (reopen : Bool) {s : State} (hs : linkOk s) (hidle : linkIdle s) :
    linkOk (requestOpen reopen s) := by
  obtain ⟨hlimits, htries, hzero, -⟩ := hs
  exact ⟨hlimits, htries, hzero, .inl ⟨hidle, rfl⟩⟩

theorem EngineMove.linkOk {s u : State} {i : Instr} (h : EngineMove s i u) (hs : linkOk s) : linkOk u := by
  have hone := one_le_max_of_retryLimits hs.limits
  cases h with
  | same => exact hs
  | openRequested reopen hstate =>
    obtain ⟨hclosed, -⟩ | ⟨hbackoff, -⟩ := hstate
    · exact requestOpen_linkOk reopen hs (hs.in_closed hclosed).1
    · exact requestOpen_linkOk reopen hs (hs.in_backoff hbackoff).1
  | closed => exact ⟨hs.limits, Nat.zero_le _, fun _ => rfl, ⟨rfl, rfl, rfl, rfl, rfl, rfl, rfl⟩, rfl, rfl⟩
  | modeSent mode hstate hpend =>
    obtain ⟨hport, hproto, -, -, hpoll, hbackoff, herr, hreopen⟩ := hs.in_opened hstate
    exact linkOk_of_opened (s := awaitReply s.cfg.serial.setMode (sendFrame s.cfg.serial.setMode [mode] s)) hs.limits
      hone nofun hstate ⟨hport, hproto, fun _ => rfl, rfl, hpoll, hbackoff, herr, hreopen⟩
  | configSent v hstate hpend hv =>
    obtain ⟨⟨-, hnone, -⟩, -⟩ | ⟨⟨hport, -, -, -, hpoll, hwd, hpace, hbackoff⟩, -⟩ := hs.in_version hstate
    · rw [hpend] at hnone
      cases hnone
    · exact ⟨hs.limits, hone, nofun, ⟨hport, rfl, rfl, rfl, hpoll, hwd, hpace, hbackoff⟩, hv⟩
  | freqSent hstate =>
    obtain ⟨⟨hport, -, -, -, hpoll, hwd, hpace, hbackoff⟩, hproto⟩ := hs.in_config hstate
    exact ⟨hs.limits, hone, nofun, ⟨hport, rfl, rfl, rfl, hpoll, hwd, hpace, hbackoff⟩, hproto⟩
  | opened c rest hi hstate =>
    obtain ⟨⟨hport, -, -, -, -, -, -, hbackoff⟩, hproto⟩ := hs.in_freq hstate
    exact ⟨hs.limits, Nat.zero_le _, fun _ => rfl, hport, hproto, nofun, rfl, rfl, hbackoff, rfl, rfl⟩
  | nakRecorded r => exact hs
  | replyEnded r hstate => exact endReply_linkOk (s := withLastNak r s) hs hstate
  | openFailed r => exact failedOpen_linkOk (s := withLastNak r s) hs.limits
  | statusRead l p hstate =>
    have hopened := hs.in_opened hstate
    obtain ⟨hlimits, htries, hzero, -⟩ := hs
    exact linkOk_of_opened (s := Machine.statusRead l p s) hlimits htries hzero hstate hopened

theorem engineMoves.linkOk {s t : State} {i : Instr} (h : engineMoves s i t) (hs : linkOk s) : linkOk t := by
  obtain ⟨u, hmove, hfields⟩ := h
  exact linkOk_of_engineFields hfields (hmove.linkOk hs)

/-! #### Phase 2 (R510 to R521) -/

theorem raise_withParser_linkOk (k : ErrCode) (p : Parser) {s : State} (hs : linkOk s) :
    linkOk (withParser p (raise k s)) := by
  have hraised : linkOk (raise k s) := linkOk_of_engineFields (raise_engineFields k s) hs
  exact hraised

/-- What a complete frame can do to the link: nothing, or what its handling does. -/
theorem completeOr_linkOk (pos : ParserPos) (p : Parser) {s : State} (hs : linkOk s) :
    linkOk (completeOr pos (withParser p s)) := by
  by_cases hdone : p.off.toNat = p.len.toNat
  · rw [completeOr_of_complete hdone]
    obtain hlong | hfits := Nat.lt_or_ge s.cfg.rxbufCap p.len.toNat
    · rw [completeFrame_of_oversize hlong]
      exact raise_withParser_linkOk _ _ hs
    · rw [completeFrame_of_fitting hfits]
      obtain ⟨i, hmoves⟩ := handleFrame_engineMoves p.type (framePayload s.cfg.serial p)
        (withParser { p with pos := .start } s)
      exact hmoves.linkOk hs
  · rw [completeOr_of_incomplete hdone]
    exact hs

theorem parseByte_linkOk (b : Byte) {s : State} (hs : linkOk s) : linkOk (parseByte b s) := by
  cases hpos : s.parser.pos with
  | start =>
    by_cases hb : b = s.cfg.serial.start
    · rw [parseByte_start hpos hb]; exact hs
    · rw [parseByte_start_of_ne hpos hb]; exact hs
  | length1 =>
    by_cases hescape : b = s.cfg.serial.lenEscape
    · rw [parseByte_escape hpos hescape]; exact hs
    · obtain hbad | hlen := Nat.lt_or_ge b.toNat 3
      · rw [parseByte_badLength hpos hescape hbad]
        exact raise_withParser_linkOk _ _ hs
      · rw [parseByte_shortLength hpos hescape hlen]; exact hs
  | length2 => rw [parseByte_length2 hpos]; exact hs
  | type => rw [parseByte_type hpos]; exact completeOr_linkOk _ _ hs
  | data => rw [parseByte_data hpos]; exact completeOr_linkOk _ _ hs

theorem parseBytes_linkOk (bytes : List Byte) {s : State} (hs : linkOk s) : linkOk (parseBytes bytes s) := by
  have hfold : linkOk (bytes.foldl (fun s b => parseByte b s) s) := by
    induction bytes generalizing s with
    | nil => exact hs
    | cons b rest ih => exact ih (parseByte_linkOk b hs)
  unfold parseBytes
  split
  · exact hfold
  · exact hs

/-! #### The other phases of a tick -/

theorem advanceTimers_linkFields (dt : Nat) (s : State) : linkFields (advanceTimers dt s) = linkFields s := by
  simp only [linkFields, advanceTimers, timerAdvance_run]

theorem txDrain_linkOk {s : State} (hs : linkOk s) : linkOk (txDrain s) := by
  obtain h | ⟨e, rest, hstate, -, h⟩ := txDrain_cases s
  · rw [h]; exact hs
  · rw [h]
    have hopened := hs.in_opened hstate
    obtain ⟨hlimits, htries, hzero, -⟩ := hs
    exact linkOk_of_opened (s := frameDrained e rest s) hlimits htries hzero hstate hopened

theorem run_of_timerExpired {t : Timer} {period : Nat} (h : timerExpired t period = true) : t.run = true :=
  ((timerExpired_iff t period).mp h).1

theorem backoffAction_linkOk {s : State} (hs : linkOk s) : linkOk (backoffAction s) := by
  by_cases hdue : timerExpired s.timers.backoff s.cfg.tBackoff = true
  · obtain ⟨hidle, -⟩ := hs.in_backoff (hs.state_of_backoff_run (run_of_timerExpired hdue))
    obtain ⟨hlimits, htries, hzero, -⟩ := hs
    rw [backoffAction_of_due hdue]
    exact ⟨hlimits, htries, hzero, .inl ⟨hidle, rfl⟩⟩
  · rw [backoffAction_of_not_due hdue]; exact hs

theorem portOpened_linkOk {s : State} (hs : linkOk s) (hstate : s.link.state = .version)
    (hport : s.link.portOpen = false) : linkOk (portOpened s) := by
  obtain ⟨⟨-, -, hproto, hpoll, hwd, hpace, -⟩, hbackoff⟩ | ⟨⟨hopen, -⟩, -⟩ := hs.in_version hstate
  · refine ⟨hs.limits, one_le_max_of_retryLimits hs.limits, nofun, ?_⟩
    have hstate' : (portOpened s).link.state = .version := hstate
    rw [hstate']
    exact .inr ⟨⟨rfl, rfl, rfl, rfl, hpoll, hwd, hpace, hbackoff⟩, hproto⟩
  · rw [hport] at hopen
    cases hopen

theorem portAction_linkOk (ok : Bool) {s : State} (hs : linkOk s) : linkOk (portAction ok s) := by
  by_cases hdue : s.link.state = .version ∧ s.link.portOpen = false
  · obtain ⟨hstate, hport⟩ := hdue
    cases ok with
    | true => rw [portAction_true hstate hport]; exact portOpened_linkOk hs hstate hport
    | false => rw [portAction_false hstate hport]; exact openFail_linkOk .port hs.limits
  · rw [portAction_of_not_due hdue]; exact hs

/-- R530, R589: one try more stays within the limits, since the limit it was below is one of them. -/
theorem retried_linkOk {s : State} (hs : linkOk s) (hopening : opening s.link.state = true)
    (hresp : s.timers.resp.run = true) (htries : s.link.tries.toNat < tryLimit s) : linkOk (retried s) := by
  have hlimit : tryLimit s ≤ max s.cfg.nVer s.cfg.nAck := by
    unfold tryLimit
    split
    · exact Nat.le_max_left _ _
    · exact Nat.le_max_right _ _
  obtain ⟨-, hver, -, hack⟩ := hs.limits
  have hmax : max s.cfg.nVer s.cfg.nAck ≤ 255 := max_le hver hack
  have hnext : (s.link.tries + 1#8).toNat = s.link.tries.toNat + 1 := by
    rw [BitVec.toNat_add]
    exact Nat.mod_eq_of_lt (by simp only [BitVec.toNat_ofNat]; omega)
  have hwithin : s.link.tries.toNat + 1 ≤ max s.cfg.nVer s.cfg.nAck := Nat.lt_of_lt_of_le htries hlimit
  obtain ⟨hpend, -⟩ := hs.of_resp_run hresp
  refine ⟨hs.limits, hnext.trans_le hwithin, fun hnone => absurd (hpend.symm.trans hnone) (by decide), ?_⟩
  have hlink : (retried s).link.state = s.link.state := rfl
  rw [hlink]
  obtain hstate | hstate | hstate := (opening_iff _).mp hopening
  · rw [hstate]
    obtain ⟨⟨-, hnone, -⟩, -⟩ | ⟨⟨hport, -, hcmd, -, hstopped⟩, hproto⟩ := hs.in_version hstate
    · cases hpend.symm.trans hnone
    · exact .inr ⟨⟨hport, hpend, hcmd, rfl, hstopped⟩, hproto⟩
  · rw [hstate]
    obtain ⟨⟨hport, -, hcmd, -, hstopped⟩, hproto⟩ := hs.in_config hstate
    exact ⟨⟨hport, hpend, hcmd, rfl, hstopped⟩, hproto⟩
  · rw [hstate]
    obtain ⟨⟨hport, -, hcmd, -, hstopped⟩, hproto⟩ := hs.in_freq hstate
    exact ⟨⟨hport, hpend, hcmd, rfl, hstopped⟩, hproto⟩

theorem respAction_linkOk {s : State} (hs : linkOk s) : linkOk (respAction s) := by
  by_cases hdue : timerExpired s.timers.resp s.cfg.tResp = true
  · have hresp := run_of_timerExpired hdue
    rw [respAction_of_due hdue]
    by_cases hopening : opening s.link.state = true
    · obtain htries | htries := Nat.lt_or_ge s.link.tries.toNat (tryLimit s)
      · obtain ⟨out, hresend⟩ := resend_eq s
        rw [respTimeout_retry hopening htries, hresend]
        exact retried_linkOk (s := { s with serialOut := out }) hs hopening hresp htries
      · rw [respTimeout_giveUp hopening htries]
        exact openFail_linkOk .noResp hs.limits
    · obtain ⟨-, hstate⟩ := hs.of_resp_run hresp
      have hended : linkOk (endReply s) := endReply_linkOk hs (hstate.resolve_left hopening)
      rw [respTimeout_otherwise hopening]
      exact linkOk_of_engineFields
        (endReply_engineFields_congr ((emit_engineFields _ _).trans (raise_engineFields _ s))) hended
  · rw [respAction_of_not_due hdue]; exact hs

/-- R544: the watchdog leaves BACKOFF, whatever it found. -/
theorem watchdogExpire_linkOk {s : State} (h : retryLimits s) : linkOk (watchdogExpire s) := by
  have hcfg : (watchdogExpire s).cfg = s.cfg := (emit_cfg _ _).trans (raise_cfg _ _)
  rw [linkOk, linkIdle, hcfg, watchdogExpire_link, watchdogExpire_timers]
  exact ⟨h, Nat.zero_le _, fun _ => rfl, ⟨rfl, rfl, rfl, rfl, rfl, rfl, rfl⟩, rfl⟩

theorem watchdogAction_linkOk {s : State} (hs : linkOk s) : linkOk (watchdogAction s) := by
  unfold watchdogAction
  split
  · exact watchdogExpire_linkOk hs.limits
  · exact hs

theorem pollAction_linkOk {s : State} (hs : linkOk s) : linkOk (pollAction s) := by
  by_cases hdue : timerExpired s.timers.poll s.cfg.tPoll = true
  · have hstate := hs.state_of_poll_run (run_of_timerExpired hdue)
    obtain ⟨hport, hproto, hcmd, hresp, -, hbackoff, herr, hreopen⟩ := hs.in_opened hstate
    obtain ⟨hlimits, htries, hzero, -⟩ := hs
    rw [pollAction_of_due hdue]
    exact linkOk_of_opened (s := polled s) hlimits htries hzero hstate
      ⟨hport, hproto, hcmd, hresp, rfl, hbackoff, herr, hreopen⟩
  · rw [pollAction_of_not_due hdue]; exact hs

theorem tick_linkOk (dt : Nat) (bytes : List Byte) (ok : Bool) {s : State} (hs : linkOk s) :
    linkOk (tick dt bytes ok s) := by
  have hparsed : linkOk (parseBytes bytes (advanceTimers dt s)) :=
    parseBytes_linkOk bytes (linkOk_of_linkFields (advanceTimers_linkFields dt s) hs)
  have hdrained : linkOk (rxDrain (parseBytes bytes (advanceTimers dt s))) :=
    linkOk_of_engineFields (rxLoop_engineFields _ _) hparsed
  exact pollAction_linkOk <| watchdogAction_linkOk <| respAction_linkOk <| portAction_linkOk ok <|
    backoffAction_linkOk <| txDrain_linkOk hdrained

/-- Settles O59: a host transaction makes a move of the engine, each phase of a tick keeps the link consistent, and a
reset closes it. -/
theorem stepKeepsLinkConsistent : Obligations.StepKeepsLinkConsistent := by
  unfold Obligations.StepKeepsLinkConsistent
  intro s t hs h
  obtain ⟨-, rfl⟩ | ⟨e, rest, -, hstep⟩ := step_cases s t h
  · exact hs
  · have hfetched : linkOk { s with inputs := rest, serialOut := [] } := hs
    obtain ⟨w, -, hexec⟩ | ⟨dt, bytes, ok, -, rfl⟩ | ⟨-, rfl⟩ := hstep
    · exact (exec_engineMoves hexec).linkOk hfetched
    · exact tick_linkOk dt bytes ok hfetched
    · exact ⟨hs.limits, Nat.zero_le _, fun _ => rfl, ⟨rfl, rfl, rfl, rfl, rfl, rfl, rfl⟩, rfl, rfl⟩

end Sys2Proof.Machine
end

section
/-! ### The host port's registers (10_state.md R70 to R83, 48_host_port.md R580 to R582)

A status register is a concatenation: a field of it is read by dropping the parts below it. -/

namespace Sys2Proof.Machine

/-! #### Parts of a concatenation -/

theorem getLsbD_append_of_le {m n : Nat} {x : BitVec m} {y : BitVec n} {i : Nat} (h : n ≤ i) :
    (x ++ y).getLsbD i = x.getLsbD (i - n) := by
  rw [BitVec.getLsbD_append, if_neg (Nat.not_lt.mpr h)]

theorem getLsbD_append_of_lt {m n : Nat} {x : BitVec m} {y : BitVec n} {i : Nat} (h : i < n) :
    (x ++ y).getLsbD i = y.getLsbD i := by
  rw [BitVec.getLsbD_append, if_pos h]

theorem getLsbD_ofBool_zero (b : Bool) : (BitVec.ofBool b).getLsbD 0 = b := by cases b <;> rfl

/-! #### The fields of the status registers -/

/-- R74. -/
theorem rxStat_fields (s : State) :
    (rxStat s).extractLsb' 0 3 = rxStateCode s.rx.state ∧ (rxStat s).extractLsb' 3 5 = 0#5 ∧
    (rxStat s).extractLsb' 8 6 = s.rx.primary.cov ∧ (rxStat s).extractLsb' 14 2 = 0#2 ∧
    (rxStat s).extractLsb' 16 6 = s.rx.running.cov ∧ (rxStat s).extractLsb' 22 2 = 0#2 ∧
    (rxStat s).getLsbD 24 = s.rx.rejLatch ∧ (rxStat s).extractLsb' 25 7 = 0#7 := by
  simp only [rxStat, BitVec.extractLsb'_append_eq_of_le, BitVec.extractLsb'_append_eq_right,
    BitVec.extractLsb'_eq_self, getLsbD_append_of_le, getLsbD_append_of_lt, getLsbD_ofBool_zero, Nat.reduceLeDiff,
    Nat.reduceSub, le_refl, Nat.sub_self, Nat.one_pos, and_self]

/-- R76. -/
theorem txStat_fields (s : State) :
    (txStat s).extractLsb' 0 2 = txStateCode s.tx.state ∧ (txStat s).extractLsb' 2 2 = 0#2 ∧
    (txStat s).extractLsb' 4 3 = s.tx.lichPos ∧ (txStat s).getLsbD 7 = s.tx.nextPending ∧
    (txStat s).extractLsb' 8 8 = 0#8 ∧ (txStat s).extractLsb' 16 15 = s.tx.fn ∧
    (txStat s).getLsbD 31 = false := by
  simp only [txStat, BitVec.extractLsb'_append_eq_of_le, BitVec.extractLsb'_append_eq_right, getLsbD_append_of_le,
    getLsbD_append_of_lt, getLsbD_ofBool_zero, BitVec.getLsbD_zero, Nat.reduceLeDiff, Nat.reduceSub, le_refl,
    Nat.sub_self, Nat.one_pos, and_self]

/-- R78. -/
theorem linkStat_fields (s : State) :
    (linkStat s).extractLsb' 0 3 = linkStateCode s.link.state ∧ (linkStat s).getLsbD 3 = s.link.linkErr ∧
    (linkStat s).getLsbD 4 = s.link.autoReopen ∧ (linkStat s).getLsbD 5 = s.link.pendValid ∧
    (linkStat s).getLsbD 6 = s.link.portOpen ∧ (linkStat s).getLsbD 7 = false ∧
    (linkStat s).extractLsb' 8 8 = s.link.protoVersion ∧ (linkStat s).extractLsb' 16 8 = s.link.space ∧
    (linkStat s).extractLsb' 24 8 = s.link.tries := by
  simp only [linkStat, BitVec.extractLsb'_append_eq_of_le, BitVec.extractLsb'_append_eq_right,
    BitVec.extractLsb'_eq_self, getLsbD_append_of_le, getLsbD_append_of_lt, getLsbD_ofBool_zero,
    BitVec.getLsbD_zero, Nat.reduceLeDiff, Nat.reduceSub, le_refl, Nat.sub_self, Nat.one_pos, and_self]

/-- R79. -/
theorem modemStat_fields (s : State) :
    (modemStat s).extractLsb' 0 8 = s.link.modemMode ∧ (modemStat s).extractLsb' 8 8 = s.link.modemFlags ∧
    (modemStat s).extractLsb' 16 8 = s.link.lastNak ∧ (modemStat s).extractLsb' 24 8 = s.link.pendCmd := by
  simp only [modemStat, BitVec.extractLsb'_append_eq_of_le, BitVec.extractLsb'_append_eq_right,
    BitVec.extractLsb'_eq_self, Nat.reduceLeDiff, Nat.reduceSub, le_refl, Nat.sub_self, and_self]

theorem countByte_toNat (n : Nat) : (countByte n).toNat = min n 255 := Nat.mod_eq_of_lt (by omega)

/-- R80. -/
theorem qStat_fields (s : State) :
    ((qStat s).extractLsb' 0 8).toNat = min s.rxq.length 255 ∧
    ((qStat s).extractLsb' 8 8).toNat = min s.txq.length 255 ∧
    ((qStat s).extractLsb' 16 8).toNat = min s.evq.length 255 ∧
    ((qStat s).extractLsb' 24 8).toNat = min s.plq.length 255 := by
  simp only [qStat, BitVec.extractLsb'_append_eq_of_le, BitVec.extractLsb'_append_eq_right,
    BitVec.extractLsb'_eq_self, countByte_toNat, Nat.reduceLeDiff, Nat.reduceSub, le_refl, Nat.sub_self, and_self]

/-! #### Reading a register (R581) -/

theorem exec_rd (sel : Byte) (s : State) : exec (.rd sel) s = .next (doRd sel s) := rfl

/-- A defined index returns its value. -/
theorem exec_rd_of_some {sel : Byte} {s : State} {v : Word} (h : readReg sel s = some v) :
    exec (.rd sel) s = .next { s with portOut := v } := by
  rw [exec_rd, doRd, h]
  rfl

/-- A reserved index returns 0 and raises `E_BAD_ADDR`. -/
theorem exec_rd_of_none {sel : Byte} {s : State} (h : readReg sel s = none) :
    exec (.rd sel) s = .next { raise .badAddr s with portOut := 0#32 } := by
  rw [exec_rd, doRd, h]
  rfl

/-- The register map defines no other index (R70). -/
theorem readReg_of_reserved {sel : Byte} (h : sel = 0x0F#8 ∨ 0x13 ≤ sel.toNat) (s : State) : readReg sel s = none := by
  have hsel : sel.toNat = 0x0F ∨ 0x13 ≤ sel.toNat := h.imp_left (congrArg BitVec.toNat)
  unfold readReg
  split
  case h_19 => rfl
  all_goals omega

/-- Settles O48: each index by its row of the register map, the status registers by their fields. -/
theorem registerReads : Obligations.RegisterReads := by
  unfold Obligations.RegisterReads
  refine ⟨fun s => ⟨rfl, rfl, rfl, rfl, rfl, rfl, rfl, rfl, rfl, rfl, rfl, rfl, rfl, ?rxStat, ?txStat, ?linkStat,
    ⟨modemStat s, rfl, modemStat_fields s⟩, ⟨qStat s, rfl, qStat_fields s⟩⟩,
    fun s sel h => exec_rd_of_none (readReg_of_reserved h s)⟩
  case rxStat =>
    obtain ⟨hstate, hfields⟩ := rxStat_fields s
    exact ⟨rxStat s, rfl, hstate.trans (by cases s.rx.state <;> rfl), hfields⟩
  case txStat =>
    obtain ⟨hstate, hfields⟩ := txStat_fields s
    exact ⟨txStat s, rfl, hstate.trans (by cases s.tx.state <;> rfl), hfields⟩
  case linkStat =>
    obtain ⟨hstate, hfields⟩ := linkStat_fields s
    exact ⟨linkStat s, rfl, hstate.trans (by cases s.link.state <;> rfl), hfields⟩

/-! #### Writing a register (R582) -/

theorem exec_wr (sel : Byte) (data : Word) (s : State) :
    exec (.wr sel data) s = .next { writeReg sel data s with portOut := 0#32 } := rfl

/-- Every index but the six writable ones. -/
theorem writeReg_of_not_mem {sel : Byte} (h : sel ∉ [0x01#8, 0x02#8, 0x0C#8, 0x0D#8, 0x0E#8, 0x10#8]) (data : Word)
    (s : State) : writeReg sel data s = raise .badAddr s := by
  have hne : ∀ k ∈ [0x01#8, 0x02#8, 0x0C#8, 0x0D#8, 0x0E#8, 0x10#8], sel.toNat ≠ k.toNat :=
    fun k hk heq => h (BitVec.eq_of_toNat_eq heq ▸ hk)
  simp only [List.forall_mem_cons, BitVec.toNat_ofNat] at hne
  unfold writeReg
  split
  case h_7 => rfl
  all_goals omega

/-- Settles O49: each writable index by its row of `writeReg`. -/
theorem registerWrites : Obligations.RegisterWrites := by
  unfold Obligations.RegisterWrites
  intro s data
  refine ⟨rfl, rfl, rfl, rfl, rfl, exec_wr_cmd data s, fun sel hsel => ?_⟩
  rw [exec_wr, writeReg_of_not_mem hsel]

end Sys2Proof.Machine
end

section
/-! ### The host's access to the buffer spaces (20_memory.md R144, R145, 48_host_port.md R583, R584)

The space table decides every access: a space's row gives its size and whether the host may write it. -/

namespace Sys2Proof.Machine

/-! #### The space table -/

/-- R144: no space beyond the thirteen. -/
theorem lookup_spaceTable_of_reserved {sp : Byte} (h : 13 ≤ sp.toNat) : spaceTable.lookup sp = none := by
  rw [List.lookup_eq_none_iff]
  simp only [spaceTable, spTxLsf, spNextLsf, spRxLsf, spRunLsf, spCfg1, spCfg2, spFreq, spScrIn, spScrOut, spEvBuf,
    spPlBuf, spHdrLsf, spLichLsf, List.forall_mem_cons, List.not_mem_nil, false_implies, implies_true, and_true,
    bne_iff_ne, ne_eq, ← BitVec.toNat_inj, BitVec.toNat_ofNat]
  omega

/-- A row of the table is the one its space finds. -/
theorem lookup_spaceTable_of_mem {row : Byte × Nat × Bool} (h : row ∈ spaceTable) :
    spaceTable.lookup row.1 = some row.2 :=
  lookup_eq_some_of_mem (by decide) h

/-- The host may write no view. -/
theorem viewOf_of_writable {row : Byte × Nat × Bool} (h : row ∈ spaceTable) (hw : row.2.2 = true) (s : State) :
    viewOf row.1 s = none := by
  have hne : ∀ row ∈ spaceTable, row.2.2 = true →
      row.1 ≠ spRxLsf ∧ row.1 ≠ spRunLsf ∧ row.1 ≠ spHdrLsf ∧ row.1 ≠ spLichLsf := by decide
  obtain ⟨hrx, hrun, hhdr, hlich⟩ := hne row h hw
  rw [viewOf, if_neg hrx, if_neg hrun, if_neg hhdr, if_neg hlich]

theorem memWrite_storesBytes (sp : Byte) (off : Nat) (bytes : List Byte) (s : State) :
    storesBytes s (memWrite sp off bytes s) (cellAddr sp off) bytes :=
  fun a => Memory.read_writeBytes bytes s.mem (cellAddr sp off) a

/-- A byte stored in a space that no unit shows reads back. -/
theorem bufByte_memWrite {sp : Byte} (hview : ∀ s, viewOf sp s = none) (off : Nat) (b : Byte) (s : State) :
    bufByte sp off (memWrite sp off [b] s) = b := by
  rw [bufByte, hview]
  refine (memWrite_storesBytes sp off [b] s _).trans ?_
  simp

/-! #### What each access answers -/

theorem exec_brd_eq (sp : Byte) (off : BitVec 16) (s : State) :
    exec (.brd sp off) s = .next { (hostBufRead sp off.toNat s).2 with
      portOut := (hostBufRead sp off.toNat s).1.setWidth 32 } := rfl

theorem exec_bwr_eq (sp : Byte) (off : BitVec 16) (b : Byte) (s : State) :
    exec (.bwr sp off b) s = .next { hostBufWrite sp off.toNat b s with portOut := 0#32 } := rfl

section
variable {sp : Byte} {size : Nat} {off : BitVec 16}

theorem exec_brd_inside {w : Bool} (hrow : spaceTable.lookup sp = some (size, w)) (hoff : off.toNat < size)
    (s : State) : exec (.brd sp off) s = .next { s with portOut := (bufByte sp off.toNat s).setWidth 32 } := by
  have hread : hostBufRead sp off.toNat s = (bufByte sp off.toNat s, s) := by
    rw [hostBufRead, hrow]
    exact if_pos hoff
  rw [exec_brd_eq, hread]

/-- A reserved space, or an offset past the end. -/
theorem exec_brd_refused (h : ∀ size w, spaceTable.lookup sp = some (size, w) → size ≤ off.toNat) (s : State) :
    exec (.brd sp off) s = .next { raise .badAddr s with portOut := 0#32 } := by
  obtain ⟨size, w, hrow, hoff, -⟩ | hread := hostBufRead_cases sp off.toNat s
  · exact absurd hoff (Nat.not_lt.mpr (h size w hrow))
  · rw [exec_brd_eq, hread]
    rfl

theorem exec_bwr_inside (hrow : spaceTable.lookup sp = some (size, true)) (hoff : off.toNat < size) (b : Byte)
    (s : State) : exec (.bwr sp off b) s = .next { memWrite sp off.toNat [b] s with portOut := 0#32 } := by
  have hwrite : hostBufWrite sp off.toNat b s = memWrite sp off.toNat [b] s := by
    rw [hostBufWrite, hrow]
    exact if_pos ⟨hoff, rfl⟩
  rw [exec_bwr_eq, hwrite]

/-- A reserved or read-only space, or an offset past the end. -/
theorem exec_bwr_refused (h : ∀ size, spaceTable.lookup sp = some (size, true) → size ≤ off.toNat) (b : Byte)
    (s : State) : exec (.bwr sp off b) s = .next { raise .badAddr s with portOut := 0#32 } := by
  obtain ⟨size, hrow, hoff, -⟩ | hwrite := hostBufWrite_cases sp off.toNat b s
  · exact absurd hoff (Nat.not_lt.mpr (h size hrow))
  · rw [exec_bwr_eq, hwrite]

end

/-- Settles O50: the accesses follow the row of the space, which no reserved space has. -/
theorem bufferByteAccess : Obligations.BufferByteAccess := by
  unfold Obligations.BufferByteAccess
  refine ⟨fun s off b row (hrow : row ∈ spaceTable) => ?listed, fun s sp off b hsp => ?reserved,
    fun s off => ⟨rfl, rfl, rfl, rfl⟩⟩
  case listed =>
    obtain ⟨sp, size, w⟩ := row
    have hlookup : spaceTable.lookup sp = some (size, w) := lookup_spaceTable_of_mem hrow
    refine ⟨fun hoff => exec_brd_inside hlookup hoff s, fun hoff => exec_brd_refused ?_ s, ?_,
      fun hrefused => exec_bwr_refused ?_ b s⟩
    · intro size' w' h
      cases hlookup.symm.trans h
      exact hoff
    · rintro hoff rfl
      exact ⟨_, exec_bwr_inside hlookup hoff b s, rfl, memWrite_storesBytes sp off.toNat [b] s,
        bufByte_memWrite (viewOf_of_writable hrow rfl) off.toNat b s⟩
    · intro size' h
      cases hlookup.symm.trans h
      exact hrefused.resolve_right nofun
  case reserved =>
    have hlookup : spaceTable.lookup sp = none := lookup_spaceTable_of_reserved hsp
    exact ⟨exec_brd_refused (fun _ _ h => by cases hlookup.symm.trans h) s,
      exec_bwr_refused (fun _ h => by cases hlookup.symm.trans h) b s⟩

end Sys2Proof.Machine
end

section
/-! ### Event and payload records, and their pops (20_memory.md R159, 48_host_port.md R600, R604, R605)

The bytes of a record are its fields' bytes one after another, and a field's bytes are its slices, the most
significant first. -/

namespace Sys2Proof.Machine

/-! #### The bytes of a field (00_scope.md R14, 20_memory.md R141) -/

theorem bytesOfSeq_eq_slices {k : Nat} (s : BitVec (8 * k)) :
    bytesOfSeq s = (List.range k).map fun j => s.extractLsb' (8 * k - 8 - 8 * j) 8 := by
  rw [bytesOfSeq_eq_map_byteAt]
  refine List.map_congr_left fun j hj => ?_
  have hin : 8 * j + 8 ≤ 8 * k := by have := List.mem_range.mp hj; omega
  exact if_pos hin

theorem length_bytesOfSeq {n : Nat} (s : BitVec n) : (bytesOfSeq s).length = (n + 7) / 8 := by simp [bytesOfSeq]

theorem bytesOfSeq_lsf_slices (l : Lsf) :
    bytesOfSeq l = (List.range 30).map fun j => l.extractLsb' (232 - 8 * j) 8 := bytesOfSeq_eq_slices (k := 30) l

theorem bytesOfSeq_payload (p : Payload) :
    bytesOfSeq p = (List.range 16).map fun j => p.extractLsb' (120 - 8 * j) 8 := bytesOfSeq_eq_slices (k := 16) p

theorem bytesOfSeq_word (w : Word) :
    bytesOfSeq w = [w.extractLsb' 24 8, w.extractLsb' 16 8, w.extractLsb' 8 8, w.extractLsb' 0 8] :=
  bytesOfSeq_eq_slices (k := 4) w

theorem bytesOfSeq_16 (v : BitVec 16) : bytesOfSeq v = [v.extractLsb' 8 8, v.extractLsb' 0 8] :=
  bytesOfSeq_eq_slices (k := 2) v

/-! #### The bytes of a record -/

/-- R600: code, number of data bytes, data. -/
theorem eventBytes_of_parts {ev : Event} {code : Byte} {data : List Byte} {n : Nat} (h : eventParts ev = (code, data))
    (hn : data.length = n) : eventBytes ev = [code, BitVec.ofNat 8 n] ++ data := by
  rw [eventBytes, h, hn]
  rfl

theorem eventBytes_callStart (st : RxState) (via : Via) (l : Lsf) :
    eventBytes (.callStart st via l) = [0x01#8, 32#8, (rxStateCode st).setWidth 8, viaCode via] ++ bytesOfSeq l :=
  eventBytes_of_parts rfl (by simp [length_bytesOfSeq])

theorem eventBytes_callEnd (reason : EndReason) (prev : RxState) (frames bits errs : Word) :
    eventBytes (.callEnd reason prev frames bits errs) =
      [0x02#8, 14#8, endReasonCode reason, (rxStateCode prev).setWidth 8] ++
        (bytesOfSeq frames ++ bytesOfSeq bits ++ bytesOfSeq errs) :=
  eventBytes_of_parts rfl (by simp [length_bytesOfSeq])

theorem eventBytes_auxLsf (l : Lsf) : eventBytes (.auxLsf l) = [0x03#8, 30#8] ++ bytesOfSeq l :=
  eventBytes_of_parts rfl (length_bytesOfSeq l)

theorem eventBytes_rssi (r : BitVec 16) : eventBytes (.rssi r) = [0x04#8, 2#8] ++ bytesOfSeq r :=
  eventBytes_of_parts rfl (length_bytesOfSeq r)

theorem eventBytes_reject (cause : RejectCause) (l : Lsf) :
    eventBytes (.reject cause l) = [0x05#8, 31#8, rejectCode cause] ++ bytesOfSeq l :=
  eventBytes_of_parts rfl (congrArg (· + 1) (length_bytesOfSeq l))

/-- R600: an event's code is 1 to 9, and its data at most 32 bytes. -/
theorem eventParts_bounds (ev : Event) :
    1 ≤ (eventParts ev).1.toNat ∧ (eventParts ev).1.toNat ≤ 9 ∧ (eventParts ev).2.length ≤ 32 := by
  cases ev <;> simp [eventParts, length_bytesOfSeq]

theorem length_eventBytes (ev : Event) : (eventBytes ev).length = 2 + (eventParts ev).2.length := by
  rw [eventBytes, List.length_cons, List.length_cons]
  omega

/-- The second byte counts the data. -/
theorem eventBytes_len (ev : Event) : ((eventBytes ev).getD 1 0#8).toNat = (eventParts ev).2.length := by
  have hlen : (eventParts ev).2.length ≤ 32 := (eventParts_bounds ev).2.2
  exact Nat.mod_eq_of_lt (by omega)

theorem length_recordBytes (r : PayloadRecord) : (recordBytes r).length = 21 := by
  simp [recordBytes, length_bytesOfSeq]

/-! #### The pops -/

/-- Two bytes as one number. -/
theorem setWidth_append_bytes (a b : Byte) : (a ++ b).setWidth 32 = BitVec.ofNat 32 (a.toNat * 256 + b.toNat) := by
  refine BitVec.eq_of_toNat_eq ?_
  rw [BitVec.toNat_setWidth, BitVec.toNat_append, BitVec.toNat_ofNat, ← Nat.shiftLeft_add_eq_or_of_lt b.isLt,
    Nat.shiftLeft_eq]

/-- R604, R605: an empty FIFO answers 0 and 0. -/
theorem doEvPop_of_nil {s : State} (h : s.evq = []) : doEvPop s = putRes 0#32 0#32 s := by rw [doEvPop, h]

theorem doPlPop_of_nil {s : State} (h : s.plq = []) : doPlPop s = putRes 0#32 0#32 s := by rw [doPlPop, h]

/-- R604. -/
theorem doEvPop_of_cons {s : State} {ev : Event} {rest : List Event} (h : s.evq = ev :: rest) :
    doEvPop s =
      putRes (BitVec.ofNat 32 (((eventBytes ev).getD 0 0#8).toNat * 256 + ((eventBytes ev).getD 1 0#8).toNat))
        (BitVec.ofNat 32 rest.length)
        (memWrite spEvBuf 0 (eventBytes ev ++ List.replicate (64 - (eventBytes ev).length) 0#8)
          { s with evq := rest }) := by
  rw [doEvPop, h, ← setWidth_append_bytes]

/-- R605. -/
theorem doPlPop_of_cons {s : State} {r : PayloadRecord} {rest : List PayloadRecord} (h : s.plq = r :: rest) :
    doPlPop s = putRes 21#32 (BitVec.ofNat 32 rest.length)
      (memWrite spPlBuf 0 (recordBytes r ++ List.replicate 11 0#8) { s with plq := rest }) := by
  rw [doPlPop, h]

theorem exec_evPop (s : State) : exec .evPop s = .next (doEvPop s) := rfl

theorem exec_plPop (s : State) : exec .plPop s = .next (doPlPop s) := rfl

/-- An instruction that takes `popped` of the state, stores bytes in `sp` and answers `v` and `w`. -/
theorem exec_effect_of_pop {i : Instr} {s popped : State} {sp : Byte} {bytes : List Byte} {v w : Word}
    (h : exec i s = .next (putRes v w (memWrite sp 0 bytes popped))) (hmem : popped.mem = s.mem) :
    ∃ t, exec i s = .next t ∧ t = { popped with mem := t.mem, res0 := v, res1 := w } ∧
      storesBytes s t (cellAddr sp 0) bytes :=
  ⟨_, h, rfl, fun a => hmem ▸ memWrite_storesBytes sp 0 bytes popped a⟩

/-- Settles O51: the pops store the bytes of the head record, which are the bytes of its fields. -/
theorem fifoPops : Obligations.FifoPops := by
  unfold Obligations.FifoPops
  refine ⟨fun s => ⟨fun h => ?evNil, fun ev rest h => ?evCons, fun h => ?plNil, fun r rest h => ?plCons⟩, ?bytes,
    fun ev => ?lengths, length_recordBytes⟩
  case evNil => rw [exec_evPop, doEvPop_of_nil h, putRes]
  case plNil => rw [exec_plPop, doPlPop_of_nil h, putRes]
  case evCons => exact exec_effect_of_pop ((exec_evPop s).trans (congrArg _ (doEvPop_of_cons h))) rfl
  case plCons => exact exec_effect_of_pop ((exec_plPop s).trans (congrArg _ (doPlPop_of_cons h))) rfl
  case lengths =>
    obtain ⟨hmin, hmax, hlen⟩ := eventParts_bounds ev
    rw [length_eventBytes, eventBytes_len]
    exact ⟨by omega, rfl, hmin, hmax⟩
  case bytes =>
    intro rxCode linkCode lsfBytes wordBytes
    have hrx : ∀ st, (rxStateCode st).setWidth 8 = rxCode st := fun st => by cases st <;> rfl
    have hlink : ∀ st, (linkStateCode st).setWidth 8 = linkCode st := fun st => by cases st <;> rfl
    have hlsf : ∀ l : Lsf, bytesOfSeq l = lsfBytes l := bytesOfSeq_lsf_slices
    have hword : ∀ w : Word, bytesOfSeq w = wordBytes w := bytesOfSeq_word
    refine ⟨fun st l => ?callStart, fun reason prev frames bits errs => ?callEnd, fun l => ?auxLsf, fun r => ?rssi,
      fun l => ?reject, fun k => rfl, fun st v => ?link, fun type cmd reason => rfl, fun type len => rfl,
      fun r => ?payload⟩
    case callStart =>
      rw [eventBytes_callStart, eventBytes_callStart, hrx, hlsf]
      exact ⟨rfl, rfl⟩
    case callEnd =>
      rw [eventBytes_callEnd, hrx, hword, hword, hword]
      cases reason <;> rfl
    case auxLsf => rw [eventBytes_auxLsf, hlsf]
    case rssi =>
      rw [eventBytes_rssi, bytesOfSeq_16]
      rfl
    case reject =>
      rw [eventBytes_reject, eventBytes_reject, hlsf]
      exact ⟨rfl, rfl⟩
    case link =>
      rw [← hlink]
      rfl
    case payload =>
      rw [recordBytes, hrx, bytesOfSeq_16, bytesOfSeq_16, bytesOfSeq_payload]
      rfl

end Sys2Proof.Machine
end

section
/-! ### Errors and events (60_exceptions.md R620, R621, 48_host_port.md R601) -/

namespace Sys2Proof.Machine

theorem emit_of_le {ev : Event} {s : State} (h : s.cfg.evqCap ≤ s.evq.length) :
    emit ev s = { s with err := s.err ||| errBit .evqOvf } := if_neg (Nat.not_lt.mpr h)

/-- R621: `E_EVQ_OVF` itself is not reported by an event, so raising ends. -/
theorem raise_evqOvf (s : State) : raise .evqOvf s = { s with err := s.err ||| errBit .evqOvf } := rfl

/-- Any other error is reported by one. -/
theorem raise_of_ne {k : ErrCode} (hk : k ≠ .evqOvf) (s : State) :
    raise k s = emit (.error k) { s with err := s.err ||| errBit k } := if_neg hk

/-- Settles O52: raising sets the error's bit and emits its event, which finds a place in the FIFO or not. -/
theorem errorsAreRecorded : Obligations.ErrorsAreRecorded := by
  unfold Obligations.ErrorsAreRecorded
  refine ⟨rfl, fun s k ev => ⟨fun hroom hk => ?room, fun hfull hk => ?full, raise_evqOvf s, emit_of_lt, emit_of_le⟩⟩
  case room => exact (raise_of_ne hk s).trans (emit_of_lt hroom)
  case full => exact (raise_of_ne hk s).trans (emit_of_le hfull)

end Sys2Proof.Machine
end

section
/-! ### Host transactions and resets as steps, the interrupt line, and the state after reset (00_scope.md R10,
60_exceptions.md R640, 70_reset_and_hazards.md R680, R681) -/

namespace Sys2Proof.Machine

/-! #### Steps -/

theorem step_of_port {s : State} {w : BitVec 64} {rest : List EnvStep} (h : s.inputs = .port w :: rest) :
    step s = exec (decodePort w) { s with inputs := rest, serialOut := [] } := by
  rw [step, fetch, h]

theorem step_of_reset {s : State} {rest : List EnvStep} (h : s.inputs = .reset :: rest) :
    step s = .next (resetStep { s with inputs := rest, serialOut := [] }) := by
  rw [step, fetch, h]

/-- Settles O5: every `PORT` word decodes to an instruction, which the step runs. -/
theorem stepRunsPortInstruction : Obligations.StepRunsPortInstruction := by
  unfold Obligations.StepRunsPortInstruction
  intro s w rest i hinputs hdecode
  obtain rfl : decodePort w = i := Except.ok.inj hdecode
  exact step_of_port hinputs

/-! #### The interrupt line -/

/-- R640. -/
theorem irq_iff (s : State) :
    irq s = true ↔
      (s.ctrl.getLsbD 16 = true ∧ (s.evq ≠ [] ∨ s.plq ≠ [])) ∨ (s.ctrl.getLsbD 17 = true ∧ s.err ≠ 0#32) := by
  simp only [irq, ieEv, ieErr, Bool.or_eq_true, Bool.and_eq_true, decide_eq_true_eq, List.length_pos_iff]

/-! #### After reset -/

/-- What a register reads after reset is the same in every configuration. -/
theorem readReg_resetStep (sel : Byte) (s : State) : readReg sel (resetStep s) = readReg sel State.reset := rfl

theorem readReg_reset : ∀ sel : Byte, (1 ≤ sel.toNat ∧ sel.toNat ≤ 0x0E) ∨ (0x10 ≤ sel.toNat ∧ sel.toNat ≤ 0x12) →
    readReg sel State.reset = some 0#32 := by decide +kernel

theorem viewOf_resetStep {sp : Byte} {s : State} {l : Lsf} (h : viewOf sp (resetStep s) = some l) : l = 0#240 := by
  unfold viewOf at h
  split_ifs at h <;> exact (Option.some.inj h).symm

/-- Memory and every view are 0. -/
theorem bufByte_resetStep (sp : Byte) (off : Nat) (s : State) : bufByte sp off (resetStep s) = 0#8 := by
  obtain ⟨l, hview, hbyte⟩ | ⟨-, hbyte⟩ := bufByte_cases sp off (resetStep s)
  · rw [hbyte, viewOf_resetStep hview, byteAt, BitVec.extractLsb'_zero, ite_self]
  · exact hbyte

theorem irq_resetStep (s : State) : irq (resetStep s) = false := by
  rw [← Bool.not_eq_true, irq_iff]
  rintro (⟨-, hevq | hplq⟩ | ⟨-, herr⟩)
  · exact hevq rfl
  · exact hplq rfl
  · exact herr rfl

/-- Settles O53: the reset values do not depend on the configuration, and the interrupt line reads the queues and the
errors. -/
theorem resetAndInterruptLine : Obligations.ResetAndInterruptLine := by
  unfold Obligations.ResetAndInterruptLine
  refine ⟨fun s rest h => ⟨_, step_of_reset h, rfl, rfl, rfl, rfl, rfl, rfl, rfl, rfl, rfl, rfl, rfl, rfl, rfl, rfl,
    fun sel hsel => ?registers, exec_rd_of_some rfl, fun sp off => bufByte_resetStep sp off _, rfl, irq_resetStep _⟩,
    irq_iff⟩
  case registers => exact exec_rd_of_some ((readReg_resetStep sel _).trans (readReg_reset sel hsel))

/-! #### The invariants (R680) -/

/-- The limits that a legal configuration sets on the serial bias and on the retries. -/
theorem Params.limits_of_wf {p : Params} (h : p.wf = true) :
    (5 ≤ p.serial.len2Bias ∧ p.serial.len2Bias ≤ 257) ∧
      (1 ≤ p.nVer ∧ p.nVer ≤ 255 ∧ 1 ≤ p.nAck ∧ p.nAck ≤ 255) := by
  simp only [Params.wf, Bool.and_eq_true, decide_eq_true_eq, SerialCodes.wf_iff] at h
  tauto

theorem resetWith_linkOk {p : Params} (h : retryLimits (State.resetWith p)) : linkOk (State.resetWith p) :=
  ⟨h, Nat.zero_le _, fun _ => rfl, ⟨rfl, rfl, rfl, rfl, rfl, rfl, rfl⟩, rfl, rfl⟩

/-- Settles O60: what each invariant reads is empty or 0, and a legal configuration sets the limits. -/
theorem resetMeetsInvariants : Obligations.ResetMeetsInvariants := by
  unfold Obligations.ResetMeetsInvariants
  intro p hp
  obtain ⟨hbias, hlimits⟩ := Params.limits_of_wf hp
  obtain ⟨hfields, htransmit⟩ := resetStep_fieldsOk (State.resetWith p)
  have hqueues : queuesOk (State.resetWith p) := ⟨rfl, Nat.zero_le _, Nat.zero_le _, Nat.zero_le _⟩
  have hreceive : receiveOk (State.resetWith p) := ⟨rfl, rfl⟩
  exact ⟨resetWith_wf p, hfields, htransmit, hqueues, parserOk_of_start hbias List.length_replicate rfl, hreceive,
    resetWith_linkOk hlimits⟩

end Sys2Proof.Machine
end
